-- ==== Sys2Proof/Word.lean ====
section
/-! DEFINITION. Word.lean: the 32-bit word of every host register (00_scope.md R10), a byte lane, and the three
sizes of a host access (20_memory.md R61, R62). -/

namespace Sys2Proof

/-- A host register, the data word, the code word: 32 bits (R10). -/
abbrev Word := BitVec 32

/-- One byte lane of the 32-bit bus (R64). -/
abbrev Byte := BitVec 8

/-- The size of a host access: 8, 16 or 32 bits. Only the last is served (R61, R62; log 11). -/
inductive AccessSize where
  | byte
  | half
  | word
deriving DecidableEq, Repr

/-- The size in bytes, as in `MemRead(addr, 4)` (R14). -/
def AccessSize.bytes : AccessSize → Nat
  | .byte => 1
  | .half => 2
  | .word => 4

end Sys2Proof
end

