-- ==== Sys2Proof/Syntax.lean ====
section
/-! DEFINITION. Syntax.lean: one constructor per mnemonic of spec/opcode_table.json. The five CMD mnemonics are the
command words of 30_encoding.md R81 and R83; the BUS mnemonics are the host accesses of R86. Rows that share a
mnemonic (ILLEGAL_OP, RD_RSVD, WR_RSVD, MISALIGNED) differ in an operand of their constructor. -/

namespace Sys2Proof

inductive Instr where
  /-- NOP, command word 0x00000000 (R102). -/
  | nop
  /-- INIT, command word 0x00000001 (R103). -/
  | init
  /-- ENCODE, command word 0x00000002 (R104). -/
  | encode
  /-- ILLEGAL_OP: RSVD = 0 and a reserved OP, 0x3 to 0xF (R105). -/
  | illegalOp (op : BitVec 4)
  /-- ILLEGAL_RSVD: a command word with bits [31:4] ≠ 0 (R105). -/
  | illegalRsvd (w : Word)
  /-- RD_CMD (R180). -/
  | rdCmd
  /-- WR_CMD: submit the command word w (R181). -/
  | wrCmd (w : Word)
  /-- RD_STATUS (R182). -/
  | rdStatus
  /-- WR_STATUS (R183). -/
  | wrStatus (w : Word)
  /-- RD_CFG_N (R184). -/
  | rdCfgN
  /-- WR_CFG_N (R185). -/
  | wrCfgN (w : Word)
  /-- RD_CFG_K (R186). -/
  | rdCfgK
  /-- WR_CFG_K (R187). -/
  | wrCfgK (w : Word)
  /-- RD_CFG_POLY (R188). -/
  | rdCfgPoly
  /-- WR_CFG_POLY (R189). -/
  | wrCfgPoly (w : Word)
  /-- RD_DATA_IN (R190). -/
  | rdDataIn
  /-- WR_DATA_IN (R191). -/
  | wrDataIn (w : Word)
  /-- RD_CODE_OUT (R192). -/
  | rdCodeOut
  /-- WR_CODE_OUT (R198). -/
  | wrCodeOut (w : Word)
  /-- RD_GEN (R193). -/
  | rdGen
  /-- WR_GEN (R199). -/
  | wrGen (w : Word)
  /-- RD_TAB_SEL (R194). -/
  | rdTabSel
  /-- WR_TAB_SEL (R195). -/
  | wrTabSel (w : Word)
  /-- RD_TAB_DATA (R196). -/
  | rdTabData
  /-- WR_TAB_DATA (R200). -/
  | wrTabData (w : Word)
  /-- RD_PARAM (R197). -/
  | rdParam
  /-- WR_PARAM (R201). -/
  | wrParam (w : Word)
  /-- RD_RSVD at a reserved offset 0x2C to 0x3C (R202). -/
  | rdRsvd (offset : BitVec 6)
  /-- WR_RSVD at a reserved offset 0x2C to 0x3C (R203). -/
  | wrRsvd (offset : BitVec 6) (w : Word)
  /-- MISALIGNED: a wrong-size or misaligned access, read or write (R204). -/
  | misaligned (we : Bool) (offset : BitVec 6) (size : AccessSize)
deriving DecidableEq, Repr

end Sys2Proof
end

