-- ==== Sys2Proof/WellFormed.lean ====
section
/-! DEFINITION. WellFormed.lean: which operands an encoding can give (30_encoding.md R83, R85, R86). -/

namespace Sys2Proof

/-- The reserved offsets 0x2C, 0x30, 0x34, 0x38 and 0x3C (20_memory.md R63). -/
def reservedOffset (offset : BitVec 6) : Bool :=
  decide (0x2C ≤ offset.toNat) && decide (offset.toNat % 4 = 0)

/-- A wrong size or an offset with bits [1:0] ≠ 0 (20_memory.md R62). -/
def badAccess (offset : BitVec 6) (size : AccessSize) : Bool :=
  decide (size ≠ .word) || decide (offset.toNat % 4 ≠ 0)

/-- The operands are ones that some command word or bus access encodes. -/
def Instr.wellFormed : Instr → Bool
  | .nop => true
  | .init => true
  | .encode => true
  | .illegalOp op => decide (3 ≤ op.toNat)
  | .illegalRsvd w => decide (16 ≤ w.toNat)
  | .rdCmd => true
  | .wrCmd _ => true
  | .rdStatus => true
  | .wrStatus _ => true
  | .rdCfgN => true
  | .wrCfgN _ => true
  | .rdCfgK => true
  | .wrCfgK _ => true
  | .rdCfgPoly => true
  | .wrCfgPoly _ => true
  | .rdDataIn => true
  | .wrDataIn _ => true
  | .rdCodeOut => true
  | .wrCodeOut _ => true
  | .rdGen => true
  | .wrGen _ => true
  | .rdTabSel => true
  | .wrTabSel _ => true
  | .rdTabData => true
  | .wrTabData _ => true
  | .rdParam => true
  | .wrParam _ => true
  | .rdRsvd offset => reservedOffset offset
  | .wrRsvd offset _ => reservedOffset offset
  | .misaligned _ offset size => badAccess offset size

end Sys2Proof
end

