-- ==== Sys2Proof/Decode.lean ====
section
/-! DEFINITION. Decode.lean: the decoder of the two formats of spec/opcode_table.json (30_encoding.md R80 to R86) and
the encoder. Both decoders are total: every command word and every bus access has exactly one instruction. -/

namespace Sys2Proof

/-! ## Command words (R80, R81, R83, R84) -/

/-- The field OP, bits 3:0 of a command word (R80). -/
def cmdOp (w : Word) : BitVec 4 := w.extractLsb' 0 4

/-- The field RSVD, bits 31:4 of a command word (R80). -/
def cmdRsvd (w : Word) : BitVec 28 := w.extractLsb' 4 28

/-- The instruction of a command word: "NOP, INIT, ENCODE or illegal, by rule R83" (R84). -/
def decodeCommand (w : Word) : Instr :=
  if cmdRsvd w ≠ 0#28 then .illegalRsvd w
  else if cmdOp w = 0x0#4 then .nop
  else if cmdOp w = 0x1#4 then .init
  else if cmdOp w = 0x2#4 then .encode
  else .illegalOp (cmdOp w)

/-! ## Bus accesses (R85, R86) -/

/-- Bits [5:0] of the descriptor: the byte offset within the window (R85). -/
def descOffset (desc : BitVec 9) : BitVec 6 := desc.extractLsb' 0 6

/-- Bit 8 of the descriptor: WE, 1 for a write (R85). -/
def descWrite (desc : BitVec 9) : Bool := desc.getLsbD 8

/-- An aligned 32-bit read of the offset (R86, the read column). -/
def decodeRead (offset : BitVec 6) : Instr :=
  if offset = 0x00#6 then .rdCmd
  else if offset = 0x04#6 then .rdStatus
  else if offset = 0x08#6 then .rdCfgN
  else if offset = 0x0C#6 then .rdCfgK
  else if offset = 0x10#6 then .rdCfgPoly
  else if offset = 0x14#6 then .rdDataIn
  else if offset = 0x18#6 then .rdCodeOut
  else if offset = 0x1C#6 then .rdGen
  else if offset = 0x20#6 then .rdTabSel
  else if offset = 0x24#6 then .rdTabData
  else if offset = 0x28#6 then .rdParam
  else .rdRsvd offset

/-- An aligned 32-bit write of `w` to the offset (R86, the write column). -/
def decodeWrite (offset : BitVec 6) (w : Word) : Instr :=
  if offset = 0x00#6 then .wrCmd w
  else if offset = 0x04#6 then .wrStatus w
  else if offset = 0x08#6 then .wrCfgN w
  else if offset = 0x0C#6 then .wrCfgK w
  else if offset = 0x10#6 then .wrCfgPoly w
  else if offset = 0x14#6 then .wrDataIn w
  else if offset = 0x18#6 then .wrCodeOut w
  else if offset = 0x1C#6 then .wrGen w
  else if offset = 0x20#6 then .wrTabSel w
  else if offset = 0x24#6 then .wrTabData w
  else if offset = 0x28#6 then .wrParam w
  else .wrRsvd offset w

/-- A bus access: "The two misaligned rows ... a decoder checks them first" (R85), and with them every 8-bit or
16-bit access (R204). Bits 7:6 of the descriptor are in no row's mask (log 12). The data word of a read is ignored. -/
def decodeBus (size : AccessSize) (desc : BitVec 9) (data : Word) : Instr :=
  if badAccess (descOffset desc) size then .misaligned (descWrite desc) (descOffset desc) size
  else if descWrite desc then decodeWrite (descOffset desc) data
  else decodeRead (descOffset desc)

/-! ## The two formats together, and the encoder -/

/-- An encoded instruction: a command word (format CMD), or an access with its size, descriptor and data word
(format BUS; a read carries the data word 0). -/
inductive Code where
  | cmd (w : Word)
  | bus (size : AccessSize) (desc : BitVec 9) (data : Word)
deriving DecidableEq, Repr

/-- The decoder. -/
def decode : Code → Instr
  | .cmd w => decodeCommand w
  | .bus size desc data => decodeBus size desc data

/-- The descriptor of an access: bit 8 = WE, bits [7:6] = 0, bits [5:0] = offset (R85). -/
def descriptor (we : Bool) (offset : BitVec 6) : BitVec 9 :=
  (BitVec.ofBool we).setWidth 9 <<< 8 ||| offset.setWidth 9

/-- An aligned 32-bit read with the descriptor `desc`. -/
def readCode (desc : BitVec 9) : Code := .bus .word desc 0

/-- An aligned 32-bit write of `w` with the descriptor `desc`. -/
def writeCode (desc : BitVec 9) (w : Word) : Code := .bus .word desc w

/-- The words of an instruction, from the tables of R81 and R86. -/
def encode : Instr → Code
  | .nop => .cmd 0x00000000#32
  | .init => .cmd 0x00000001#32
  | .encode => .cmd 0x00000002#32
  | .illegalOp op => .cmd (op.setWidth 32)
  | .illegalRsvd w => .cmd w
  | .rdCmd => readCode 0x000#9
  | .wrCmd w => writeCode 0x100#9 w
  | .rdStatus => readCode 0x004#9
  | .wrStatus w => writeCode 0x104#9 w
  | .rdCfgN => readCode 0x008#9
  | .wrCfgN w => writeCode 0x108#9 w
  | .rdCfgK => readCode 0x00C#9
  | .wrCfgK w => writeCode 0x10C#9 w
  | .rdCfgPoly => readCode 0x010#9
  | .wrCfgPoly w => writeCode 0x110#9 w
  | .rdDataIn => readCode 0x014#9
  | .wrDataIn w => writeCode 0x114#9 w
  | .rdCodeOut => readCode 0x018#9
  | .wrCodeOut w => writeCode 0x118#9 w
  | .rdGen => readCode 0x01C#9
  | .wrGen w => writeCode 0x11C#9 w
  | .rdTabSel => readCode 0x020#9
  | .wrTabSel w => writeCode 0x120#9 w
  | .rdTabData => readCode 0x024#9
  | .wrTabData w => writeCode 0x124#9 w
  | .rdParam => readCode 0x028#9
  | .wrParam w => writeCode 0x128#9 w
  | .rdRsvd offset => readCode (descriptor false offset)
  | .wrRsvd offset w => writeCode (descriptor true offset) w
  | .misaligned we offset size => .bus size (descriptor we offset) 0

/-! ## The rows of spec/opcode_table.json as numbers -/

/-- Why a number is no row of the table. -/
inductive DecodeError where
  /-- A command word of more than 32 bits. -/
  | wordTooWide
  /-- A descriptor with a bit above bit 8 (R85: "a 9-bit descriptor"). -/
  | descriptorTooWide
  /-- A row wider than a command word: the table has none. -/
  | noSuchFormat
deriving DecidableEq, Repr

/-- The code of a table row's number: a row of 24 or 32 bits is a command word (format CMD), a row of 8 or 16 bits is
a descriptor (format BUS), an aligned-size access with the data word 0 (log 12). -/
def codeOfTableWord (nbits w : Nat) : Except DecodeError Code :=
  if 32 < nbits then .error .noSuchFormat
  else if 16 < nbits then
    if w < 2 ^ 32 then .ok (.cmd (BitVec.ofNat 32 w)) else .error .wordTooWide
  else
    if w < 2 ^ 9 then .ok (.bus .word (BitVec.ofNat 9 w) 0) else .error .descriptorTooWide

/-- The instruction of a table row's number. -/
def decodeTableWord (nbits w : Nat) : Option Instr :=
  match codeOfTableWord nbits w with
  | .ok c => some (decode c)
  | .error _ => none

end Sys2Proof
end

