-- ==== Sys2Proof/Machine/Poly.lean ====
section
/-! DEFINITION. Machine/Poly.lean: polynomials over GF(2) "held as integer bitmasks: bit j of the mask is the
coefficient of x^j" (00_scope.md R13). The masks are exact numbers; they are narrowed to 32 bits where they are stored
(40_commands.md R107: none overflows). -/

namespace Sys2Proof.Machine

/-- `deg(p)`: "the index of its highest set bit" (R12). The mask 0 and the mask 1 both give 0, as A.M needs (R29). -/
def deg (p : Nat) : Nat := Nat.log2 p

/-- `clmul(a, b)`: "the XOR of (a << j) over every set bit j of b" (R13), over the bits below `width`. -/
def clmulBits (a b : Nat) : Nat → Nat
  | 0 => 0
  | j + 1 => clmulBits a b j ^^^ (if b.testBit j then a <<< j else 0)

/-- `clmul(a, b)` (R13). -/
def clmul (a b : Nat) : Nat := clmulBits a b (deg b + 1)

/-- One step of long division by `g` at bit `i`: cancel that bit if it is set. -/
def pmodStep (g i a : Nat) : Nat :=
  if a.testBit i then a ^^^ (g <<< (i - deg g)) else a

/-- Long division of `a` by `g`: the bits `deg g + count − 1` down to `deg g` are cancelled in turn. -/
def pmodFrom (g : Nat) : Nat → Nat → Nat
  | 0, a => a
  | count + 1, a => pmodFrom g count (pmodStep g (deg g + count) a)

/-- `pmod(a, g)`: "the remainder of GF(2) polynomial division of a by g" (R13). -/
def pmod (a g : Nat) : Nat := pmodFrom g (deg a + 1 - deg g) a

end Sys2Proof.Machine
end

