-- ==== Sys2Proof/Config.lean ====
section
/-! DEFINITION. Config.lean: the parameters the spec leaves open (00_scope.md R8, R11; 20_memory.md R60) and the
free values of 00_scope.md R14. -/

namespace Sys2Proof

/-- The two parameters of the block (R11): "A model takes M_MAX as an argument" (R8), BASE is the one of R60.
They are fixed when the machine is built; a state carries them and no step writes them (logs 4 and 5). -/
structure Config where
  mMax : Nat
  base : Nat
deriving DecidableEq, Repr

/-- `1 ≤ M_MAX ≤ 5` (R8) and BASE "must be a multiple of 64" (R60). -/
abbrev Config.wf (c : Config) : Prop :=
  1 ≤ c.mMax ∧ c.mMax ≤ 5 ∧ c.base % 64 = 0

/-- `N_MAX = 2^M_MAX − 1` (R9). -/
def Config.nMax (c : Config) : Nat := 2 ^ c.mMax - 1

/-- "The spec's value is M_MAX = 5" (R8). BASE is open; 0 stands in the reset state (DESIGN CHOICE, log 5). -/
def Config.spec : Config := { mMax := 5, base := 0 }

/-- `UNCONSTRAINED` (R14): "a value the model draws freely, under no law, independently at each read". The argument
is the number of the draw. It has no body, so nothing can be proved of a value of it (log 3). -/
opaque Config.freeValue : Nat → Word

end Sys2Proof
end

