-- ==== Sys2Proof/Machine/State.lean ====
section
/-! DEFINITION. Machine/State.lean: everything 10_state.md R20 gives the block, the two parameters, the reset input,
and the model's own interface fields; what stops a step; the state right after reset (R38). -/

namespace Sys2Proof.Machine

open Sys2Proof

/-- A storage element that "may hold the mark ⊥" (R20): `none` is ⊥ (log 15). -/
abbrev Stored := Option Word

/-- One host access: the byte address, the size, the direction and the data word of a write
(00_scope.md R14, `MemRead` and `MemWrite`; the address is a number without a width, log 10). -/
structure Access where
  addr : Nat
  size : AccessSize
  we : Bool
  data : Word
deriving DecidableEq, Repr

/-- What the outside world can do to the block: a host access, or an edge of the one reset input (R230). -/
inductive HostEvent where
  | access (a : Access)
  | assertReset
  | releaseReset
deriving DecidableEq, Repr

/-- The bus response of the last completed access (log 2). -/
inductive Response where
  /-- No access has completed since reset. -/
  | idle
  /-- A write completed (R100). -/
  | written
  /-- A read completed and returned this word (R61). -/
  | data (v : Word)
deriving DecidableEq, Repr

/-- The block. `none` in a `Stored` field is the spec's own mark ⊥, never a missing reset value. -/
structure State where
  /-- M_MAX and BASE; no step writes them (R8, R60). -/
  config : Config
  /-- CFG_N[7:0], the staged n (R23). -/
  cfgN : BitVec 8
  /-- CFG_K[7:0], the staged k (R24). -/
  cfgK : BitVec 8
  /-- CFG_POLY, the staged polynomial mask (R25). -/
  cfgPoly : Word
  /-- DATA_IN (R26). -/
  dataIn : Word
  /-- CODE_OUT, a word or ⊥ (R27). -/
  codeOut : Stored
  /-- TAB_SEL: bits 7:0 IDX, bit 8 TSEL (R30). -/
  tabSel : BitVec 9
  /-- A.N (R29). -/
  aN : Word
  /-- A.K (R29). -/
  aK : Word
  /-- A.POLY (R29); A.M is derived from it (log 14). -/
  aPoly : Word
  /-- alphaTo[0..N_MAX] (R33). -/
  alphaTo : List Stored
  /-- indexOf[0..N_MAX] (R34). -/
  indexOf : List Stored
  /-- g_acc (R35). -/
  gAcc : Stored
  /-- STATUS.FIELD_OK (R22, R127). -/
  fieldOk : Bool
  /-- STATUS.GEN_OK (R22, R146). -/
  genOk : Bool
  /-- STATUS.INIT_DONE (R22). -/
  initDone : Bool
  /-- STATUS.CMD_ERR (R22, R105). -/
  cmdErr : Bool
  /-- STATUS.GDEG (R22, R147). -/
  gdeg : BitVec 5
  /-- The reset input is asserted (R230). -/
  inReset : Bool
  /-- The model's own: host accesses and reset edges still to come, first one first (R69, log 1). -/
  pending : List HostEvent
  /-- The model's own: the bus response of the last completed access (log 2). -/
  response : Response
  /-- The model's own: how many free values have been drawn (log 3). -/
  freeCount : Nat
deriving DecidableEq, Repr

/-- What stops a run. -/
inductive Fault where
  /-- The bus error of R62, R204 and R211, raised by a MISALIGNED access with `addr − BASE`; `badSize` is E_BUS_SIZE and
  `badAlign` is E_BUS_ALIGN (R212). Safe: the block itself would go on, unchanged (log 6). -/
  | busError (offset : BitVec 6) (badSize badAlign : Bool)
  /-- Raised by the step for an access whose address is outside the window: "the platform decides which addresses
  reach the block" (R60). Safe (log 7). -/
  | outsideWindow (addr : Nat)
  /-- Raised by the step for an access while reset is asserted: "the block accepts no access" (R230), "stuck"
  (93_implementation_defined.md S12). Safe (log 8). -/
  | heldInReset
deriving DecidableEq, Repr

/-- What the model has no meaning for. -/
inductive Refusal where
  /-- Raised by an arm of exec whose instruction has no meaning yet; no arm does. Safe. -/
  | notModelled (mnemonic : String)
deriving DecidableEq, Repr

/-- Every element at the reset value of R38, for the parameters `c`. -/
def State.atReset (c : Config) : State where
  config := c
  cfgN := 0
  cfgK := 0
  cfgPoly := 0
  dataIn := 0
  codeOut := some 0
  tabSel := 0
  aN := 0
  aK := 0
  aPoly := 0
  alphaTo := List.replicate (c.nMax + 1) none
  indexOf := List.replicate (c.nMax + 1) none
  gAcc := none
  fieldOk := false
  genOk := false
  initDone := false
  cmdErr := false
  gdeg := 0
  inReset := false
  pending := []
  response := .idle
  freeCount := 0

/-- The machine right after reset (R38, R231), with the spec's M_MAX (log 4) and no access pending (log 1). -/
def State.reset : State := State.atReset Config.spec

end Sys2Proof.Machine
end

