-- ==== Sys2Proof/Machine/Ops.lean ====
section
/-! DEFINITION. Machine/Ops.lean: the named updates of State and the operations the meanings share: what a read
returns, what completes a write, the bus error, the reset edges. -/

namespace Sys2Proof.Machine

open Sys2Proof

/-- The outcome of a step of this machine. -/
abbrev Out := Host.Outcome State Fault Refusal

/-! ## Named updates -/

/-- The bus response of an access (log 2). -/
def State.respond (s : State) (r : Response) : State := { s with response := r }

/-- One free value has been drawn (log 3). -/
def State.drawn (s : State) : State := { s with freeCount := s.freeCount + 1 }

/-- The events still to come. -/
def State.setPending (s : State) (q : List HostEvent) : State := { s with pending := q }

/-- The level of the reset input (R230). -/
def State.setInReset (s : State) (b : Bool) : State := { s with inReset := b }

/-- Write CFG_N[7:0] (R23). -/
def State.setCfgN (s : State) (v : BitVec 8) : State := { s with cfgN := v }

/-- Write CFG_K[7:0] (R24). -/
def State.setCfgK (s : State) (v : BitVec 8) : State := { s with cfgK := v }

/-- Write CFG_POLY (R25). -/
def State.setCfgPoly (s : State) (v : Word) : State := { s with cfgPoly := v }

/-- Write DATA_IN (R26). -/
def State.setDataIn (s : State) (v : Word) : State := { s with dataIn := v }

/-- Write TAB_SEL[8:0] (R30). -/
def State.setTabSel (s : State) (v : BitVec 9) : State := { s with tabSel := v }

/-- Write CODE_OUT (R27). -/
def State.setCodeOut (s : State) (c : Stored) : State := { s with codeOut := c }

/-- Write STATUS.CMD_ERR (R22). -/
def State.setCmdErr (s : State) (b : Bool) : State := { s with cmdErr := b }

/-- Write STATUS.INIT_DONE (R22). -/
def State.setInitDone (s : State) (b : Bool) : State := { s with initDone := b }

/-- Write the active configuration (R29). -/
def State.setActive (s : State) (n k poly : Word) : State := { s with aN := n, aK := k, aPoly := poly }

/-- Write the field tables and FIELD_OK (R121, R122, R127). -/
def State.setField (s : State) (alpha index : List Stored) (ok : Bool) : State :=
  { s with alphaTo := alpha, indexOf := index, fieldOk := ok }

/-- Write g_acc, GDEG and GEN_OK (R144, R149). -/
def State.setGen (s : State) (g : Stored) (d : BitVec 5) (ok : Bool) : State :=
  { s with gAcc := g, gdeg := d, genOk := ok }

/-! ## Views of the state -/

/-- N_MAX (R9). -/
def State.nMax (s : State) : Nat := s.config.nMax

/-- A.M: "A.M = deg(A.POLY) when A.POLY ≠ 0, and A.M = 0 when A.POLY = 0" (R29). -/
def State.aM (s : State) : Nat := deg s.aPoly.toNat

/-- IDX, TAB_SEL[7:0] (R30). -/
def State.idx (s : State) : BitVec 8 := s.tabSel.extractLsb' 0 8

/-- TSEL, TAB_SEL[8] (R30). -/
def State.tsel (s : State) : Bool := s.tabSel.getLsbD 8

/-! ## Accesses -/

/-- A read returns the word `v`; "No read has a side effect" (R67). -/
def readWord (v : Word) (s : State) : Out := .next (s.respond (.data v))

/-- A read returns UNCONSTRAINED, "drawn afresh at each read" (R20): the next free value (log 3). -/
def readFree (s : State) : Out := .next (s.drawn.respond (.data (Config.freeValue s.freeCount)))

/-- A read of a storage element: its word, or UNCONSTRAINED when it holds ⊥ (R20). -/
def readStored (c : Stored) (s : State) : Out :=
  match c with
  | some v => readWord v s
  | none => readFree s

/-- A write has completed, with all its effects in `s` (R67, R100). -/
def completeWrite (s : State) : Out := .next (s.respond .written)

/-- The bus error (R62, R204, R211): a fault of the host's access, no effect (log 6). -/
def raiseBusError (offset : BitVec 6) (size : AccessSize) : Out :=
  .fault (.busError offset (decide (size ≠ .word)) (decide (offset.toNat % 4 ≠ 0)))

/-! ## The reset input (R230) -/

/-- "When it is released every state element takes the reset value of 10_state.md rule R38"; the parameters, the events
still to come and the count of free values are no state elements of the block (log 8). -/
def State.toReset (s : State) : State :=
  { State.atReset s.config with pending := s.pending, freeCount := s.freeCount }

/-- The reset input is asserted; what the elements hold meanwhile cannot be observed (log 8). -/
def assertReset (s : State) : State := s.setInReset true

/-- The reset input is released; a release while it is not asserted is no edge (log 8). -/
def releaseReset (s : State) : State := if s.inReset then s.toReset else s

end Sys2Proof.Machine
end

