-- ==== Sys2Proof/Machine/Operands.lean ====
section
/-! DEFINITION. Machine/Operands.lean: how accesses and commands assemble their operands: the descriptor of an access
(30_encoding.md R85), the fields of a written word, the implicit operands of INIT and ENCODE (R82), the byte lanes
(20_memory.md R64). -/

namespace Sys2Proof.Machine

open Sys2Proof

/-! ## Accesses -/

/-- "The block decodes address bits [5:0] only" (R60). -/
def Access.offset (a : Access) : BitVec 6 := BitVec.ofNat 6 a.addr

/-- The address is in the window BASE to BASE + 0x3F (R60). -/
def Access.inWindow (c : Config) (a : Access) : Bool :=
  decide (c.base ≤ a.addr) && decide (a.addr < c.base + 64)

/-- The access as size, descriptor and data word (R85); a read carries the data word 0. -/
def Access.code (a : Access) : Code :=
  .bus a.size (descriptor a.we a.offset) (if a.we then a.data else 0)

/-- The aligned-size access of a descriptor, at BASE + offset (R60, R85). -/
def accessOfDescriptor (c : Config) (desc : BitVec 9) (data : Word) : Access :=
  { addr := c.base + (descOffset desc).toNat, size := .word, we := descWrite desc, data := data }

/-! ## Fields of a written word -/

/-- w[7:0] (R185, R187). -/
def low8 (w : Word) : BitVec 8 := w.extractLsb' 0 8

/-- w[8:0]: IDX and TSEL of a TAB_SEL write (R195). -/
def low9 (w : Word) : BitVec 9 := w.extractLsb' 0 9

/-! ## Implicit operands of the commands (R82) -/

/-- A.N as an unsigned integer. -/
def State.n (s : State) : Nat := s.aN.toNat

/-- A.K as an unsigned integer. -/
def State.k (s : State) : Nat := s.aK.toNat

/-- `p = n − k`, the number of parity bits (42_generator.md). -/
def State.p (s : State) : Nat := s.n - s.k

/-- The latch of INIT: `A.N <- zext_32(CFG_N[7:0])`, `A.K <- zext_32(CFG_K[7:0])`, `A.POLY <- CFG_POLY` (R103). -/
def State.latchConfig (s : State) : State := s.setActive (s.cfgN.setWidth 32) (s.cfgK.setWidth 32) s.cfgPoly

/-- A table entry as the integer the builders use. They read no entry that holds ⊥ (log 16). -/
def look (t : List Stored) (i : Nat) : Nat := ((t.getD i none).getD 0).toNat

/-! ## Byte lanes (R64) -/

/-- Byte lane i "carries bits [8i+7:8i] of the register". -/
def busLane (w : Word) (i : Nat) : Byte := w.extractLsb' (8 * i) 8

/-- The word a bridge assembles from lanes 0 to 3. -/
def wordOfLanes (b0 b1 b2 b3 : Byte) : Word := b3 ++ b2 ++ b1 ++ b0

end Sys2Proof.Machine
end

