-- ==== Sys2Proof/Machine/Flags.lean ====
section
/-! DEFINITION. Machine/Flags.lean: every flag of STATUS (10_state.md R22): the two validity flags INIT computes
(41_field_tables.md R127, 42_generator.md R146), GDEG (R147), the write-1-to-clear of CMD_ERR (44_register_access.md
R183) and the word a read of STATUS returns (R182). -/

namespace Sys2Proof.Machine

open Sys2Proof

/-- "The Builder needs 1 ≤ m ≤ M_MAX" (R120) and `m ≤ n ≤ N_MAX`: BuildField's second arm runs (R121). -/
def fieldInRange (c : Config) (m n : Nat) : Bool :=
  decide (1 ≤ m) && decide (m ≤ c.mMax) && decide (m ≤ n) && decide (n ≤ c.nMax)

/-- `FieldOk()` of R127 over the table `alphaTo`. -/
def fieldOkFlag (c : Config) (m n : Nat) (alpha : List Stored) : Bool :=
  fieldInRange c m n && decide (n = 2 ^ m - 1) && decide (look alpha n = 1)
    && (List.range n).all (fun i => decide (i = 0) || decide (look alpha i ≠ 1))

/-- `GEN_OK <- (deg(acc) == p)` (R144, R146). -/
def genOkFlag (acc p : Nat) : Bool := decide (deg acc = p)

/-- `GDEG <- deg(acc)` (R147), a 5-bit field (R22). -/
def gdegField (acc : Nat) : BitVec 5 := BitVec.ofNat 5 (deg acc)

/-- CMD_ERR after a write of w to STATUS: `if w[3] == 1: CMD_ERR <- 0` (R183). -/
def cmdErrAfterWrite (w : Word) (old : Bool) : Bool := if w.getLsbD 3 then false else old

/-- One flag as a word. -/
def flagWord (b : Bool) : Word := (BitVec.ofBool b).setWidth 32

/-- The word a read of STATUS returns (R182). -/
def statusWord (s : State) : Word :=
  (s.gdeg.setWidth 32 <<< 16) ||| (BitVec.ofNat 32 s.aM <<< 8) ||| (flagWord s.cmdErr <<< 3)
    ||| (flagWord s.initDone <<< 2) ||| (flagWord s.genOk <<< 1) ||| flagWord s.fieldOk

end Sys2Proof.Machine
end

