-- ==== Sys2Proof/Machine/RegRead.lean ====
section
/-! DEFINITION. Machine/RegRead.lean: the host reads (44_register_access.md). -/

namespace Sys2Proof.Machine

open Sys2Proof

/-- RD_CMD: `return 0x00000000` (R180). -/
def execRdCmd (s : State) : Out := readWord 0 s

/-- RD_STATUS (R182). -/
def execRdStatus (s : State) : Out := readWord (statusWord s) s

/-- RD_CFG_N: `zext_32(reg.CFG_N[7:0])` (R184). -/
def execRdCfgN (s : State) : Out := readWord (s.cfgN.setWidth 32) s

/-- RD_CFG_K: `zext_32(reg.CFG_K[7:0])` (R186). -/
def execRdCfgK (s : State) : Out := readWord (s.cfgK.setWidth 32) s

/-- RD_CFG_POLY (R188). -/
def execRdCfgPoly (s : State) : Out := readWord s.cfgPoly s

/-- RD_DATA_IN (R190). -/
def execRdDataIn (s : State) : Out := readWord s.dataIn s

/-- RD_CODE_OUT: UNCONSTRAINED while CODE_OUT holds ⊥ (R192). -/
def execRdCodeOut (s : State) : Out := readStored s.codeOut s

/-- RD_GEN: UNCONSTRAINED while g_acc holds ⊥ (R193). -/
def execRdGen (s : State) : Out := readStored s.gAcc s

/-- RD_TAB_SEL: `(TSEL << 8) OR IDX` (R194). -/
def execRdTabSel (s : State) : Out := readWord ((flagWord s.tsel <<< 8) ||| s.idx.setWidth 32) s

/-- The entry TAB_DATA selects, ⊥ for an index above N_MAX or A.N (R196). -/
def selectedEntry (s : State) : Stored :=
  if s.nMax < s.idx.toNat ∨ s.n < s.idx.toNat then none
  else if s.tsel then s.indexOf.getD s.idx.toNat none
  else s.alphaTo.getD s.idx.toNat none

/-- RD_TAB_DATA (R196). -/
def execRdTabData (s : State) : Out := readStored (selectedEntry s) s

/-- PARAM: bits [3:0] = M_MAX, bits [15:8] = N_MAX (R32, R197). -/
def paramWord (c : Config) : Word := (BitVec.ofNat 32 c.nMax <<< 8) ||| BitVec.ofNat 32 c.mMax

/-- RD_PARAM: `(N_MAX << 8) OR M_MAX` (R197). -/
def execRdParam (s : State) : Out := readWord (paramWord s.config) s

/-- RD_RSVD: `return 0x00000000`, no bus error (R202). -/
def execRdRsvd (_offset : BitVec 6) (s : State) : Out := readWord 0 s

end Sys2Proof.Machine
end

