-- ==== Sys2Proof/Machine/Encoder.lean ====
section
/-! DEFINITION. Machine/Encoder.lean: the Systematic Encoder, the operation of ENCODE (43_encoder.md). -/

namespace Sys2Proof.Machine

open Sys2Proof

/-- One data bit of EncodeOp (R160): `fb <- d[i] XOR r[p-1]`, shift, and on feedback XOR `g[p-1:0]`. -/
def encodeStep (d p g i r : Nat) : Nat :=
  let fb := d.testBit i ^^ r.testBit (p - 1)
  let shifted := (r <<< 1) &&& (2 ^ p - 1)
  if fb then shifted ^^^ (g &&& (2 ^ p - 1)) else shifted

/-- The loop of EncodeOp (R160): data bits i = count − 1 down to 0 from the remainder register r. -/
def encodeLoop (d p g : Nat) : Nat → Nat → Nat
  | 0, r => r
  | i + 1, r => encodeLoop d p g i (encodeStep d p g i r)

/-- The code word of R160, as an exact number: `(d << p) OR r`. -/
def codeWord (d k p g : Nat) : Nat := (d <<< p) ||| encodeLoop d p g k 0

/-- `EncodeOp(d)` (R160): ⊥ when GEN_OK = 0 or d ≥ 2^k (R162). With GEN_OK = 1 g_acc holds no ⊥ (log 16). -/
def encodeOp (s : State) (d : Word) : Stored :=
  if s.genOk ∧ d.toNat < 2 ^ s.k then s.gAcc.map (fun g => BitVec.ofNat 32 (codeWord d.toNat s.k s.p g.toNat))
  else none

end Sys2Proof.Machine
end

