-- ==== Sys2Proof/Machine/FieldTables.lean ====
section
/-! DEFINITION. Machine/FieldTables.lean: the Field Table Builder, the first part of INIT (41_field_tables.md). -/

namespace Sys2Proof.Machine

open Sys2Proof

/-- A shift-and-reduce step: `t <- alphaTo[i-1] << 1; if t[m] == 1: t <- t XOR A.POLY` (R121). -/
def alphaNext (m poly prev : Nat) : Nat :=
  let t := prev <<< 1
  if t.testBit m then t ^^^ poly else t

/-- alphaTo[i] by the recurrence of R121: `2^i` below m, the poly-derived element at m, then the steps. -/
def alphaAt (m poly : Nat) : Nat → Nat
  | 0 => if 0 < m then 1 else poly ^^^ 1
  | i + 1 =>
    if i + 1 < m then 2 ^ (i + 1)
    else if i + 1 = m then poly ^^^ 2 ^ m
    else alphaNext m poly (alphaAt m poly i)

/-- A table of N_MAX + 1 entries that all hold ⊥ (R121, first arm). -/
def blankTable (c : Config) : List Stored := List.replicate (c.nMax + 1) none

/-- alphaTo[0..N_MAX]: the recurrence up to n, ⊥ above (R121, R124). -/
def alphaTable (c : Config) (m n poly : Nat) : List Stored :=
  (List.range (c.nMax + 1)).map (fun i => if i ≤ n then some (BitVec.ofNat 32 (alphaAt m poly i)) else none)

/-- `for i in 0 .. n-1: indexOf[alphaTo[i]] <- i` (R122), on the table `t`. -/
def fillIndex (alpha : List Stored) : Nat → List Stored → List Stored
  | 0, t => t
  | i + 1, t => (fillIndex alpha i t).set (look alpha i) (some (BitVec.ofNat 32 i))

/-- The sentinel −1 of indexOf[0], in two's complement (R123). -/
def logOfZero : Word := BitVec.ofInt 32 (-1)

/-- indexOf[0..N_MAX] by BuildIndex (R122, R123): every entry is written, so what stood before is not read (log 22). -/
def indexTable (c : Config) (n : Nat) (alpha : List Stored) : List Stored :=
  (fillIndex alpha n (blankTable c)).set 0 (some logOfZero)

/-- BuildField (R121, R122, R127): reads A.N, A.POLY and A.M; writes alphaTo, indexOf and FIELD_OK. -/
def State.buildField (s : State) : State :=
  if fieldInRange s.config s.aM s.n then
    let alpha := alphaTable s.config s.aM s.n s.aPoly.toNat
    let ok := fieldOkFlag s.config s.aM s.n alpha
    s.setField alpha (if ok then indexTable s.config s.n alpha else blankTable s.config) ok
  else s.setField (blankTable s.config) (blankTable s.config) false

end Sys2Proof.Machine
end

