-- ==== Sys2Proof/Machine/Generator.lean ====
section
/-! DEFINITION. Machine/Generator.lean: the Generator Polynomial Builder, the second part of INIT (42_generator.md). -/

namespace Sys2Proof.Machine

open Sys2Proof

/-- `gf_mul(a, b)` through the tables (41_field_tables.md R126). -/
def gfMul (n : Nat) (alpha index : List Stored) (a b : Nat) : Nat :=
  if a = 0 ∨ b = 0 then 0 else look alpha ((look index a + look index b) % n)

/-- The loop of ConjClass (R141): append c until it is already in the class. At most n exponents exist, so `fuel = n`
turns of the loop are enough (log 20). -/
def conjFrom (n : Nat) : Nat → Nat → List Nat → List Nat
  | 0, _, cls => cls
  | fuel + 1, c, cls => if c ∈ cls then cls else conjFrom n fuel (2 * c % n) (cls ++ [c])

/-- `ConjClass(e)` (R141). -/
def conjClass (n e : Nat) : List Nat := conjFrom n n e []

/-- `Q = (x + beta) * P`: `Q[j+1]` collects `P[j]` and `Q[j]` collects `gf_mul(P[j], beta)` (R142). -/
def mulRoot (n : Nat) (alpha index : List Stored) (beta : Nat) (P : List Nat) : List Nat :=
  List.zipWith (· ^^^ ·) (0 :: P) (P.map (fun c => gfMul n alpha index c beta) ++ [0])

/-- `sum over j of (P[j] << j)` (R142). -/
def maskOf : List Nat → Nat
  | [] => 0
  | c :: cs => c + (maskOf cs <<< 1)

/-- The coefficients of `MinPoly(e)` over GF(2^m): the product of `(x + alphaTo[c])` over the class, from `P = [1]` (R142). -/
def minPolyCoeffs (n : Nat) (alpha index : List Stored) (e : Nat) : List Nat :=
  (conjClass n e).foldl (fun P c => mulRoot n alpha index (look alpha c) P) [1]

/-- `MinPoly(e)` (R142). -/
def minPoly (n : Nat) (alpha index : List Stored) (e : Nat) : Nat := maskOf (minPolyCoeffs n alpha index e)

/-- The accumulator of BuildGenerator: the product so far and the exponents absorbed (R144). -/
structure GenAcc where
  acc : Nat
  absorbed : List Nat
deriving DecidableEq, Repr

/-- One turn of BuildGenerator's loop at the root r (R144). Once the degree has reached p every later turn leaves the
accumulator as it is, which is the loop's break (log 20). -/
def genStep (n p : Nat) (alpha index : List Stored) (a : GenAcc) (r : Nat) : GenAcc :=
  if p ≤ deg a.acc then a
  else
    let e := r % n
    if e ∈ a.absorbed then a
    else { acc := clmul a.acc (minPoly n alpha index e), absorbed := a.absorbed ++ conjClass n e }

/-- The turns r = 1 to `count` (R144). -/
def genLoop (n p : Nat) (alpha index : List Stored) : Nat → GenAcc
  | 0 => { acc := 1, absorbed := [] }
  | r + 1 => genStep n p alpha index (genLoop n p alpha index r) (r + 1)

/-- `acc` at the end of BuildGenerator (R144): the turns r = 1 to p. -/
def generator (n k : Nat) (alpha index : List Stored) : Nat := (genLoop n (n - k) alpha index (n - k)).acc

/-- BuildGenerator when FIELD_OK = 1 and A.K < A.N (R144, R146, R147), else ⊥, 0 and 0 (R149). -/
def State.buildGenerator (s : State) : State :=
  if s.fieldOk ∧ s.k < s.n then
    let acc := generator s.n s.k s.alphaTo s.indexOf
    s.setGen (some (BitVec.ofNat 32 acc)) (gdegField acc) (genOkFlag acc s.p)
  else s.setGen none 0 false

end Sys2Proof.Machine
end

