-- ==== Sys2Proof/Machine/Commands.lean ====
section
/-! DEFINITION. Machine/Commands.lean: the command words (40_commands.md). Each is one atomic change of the state
(R100); the write of CMD that submits it completes afterwards (R181, Machine/RegWrite.lean). -/

namespace Sys2Proof.Machine

open Sys2Proof

/-- `IllegalCommand(w): reg.STATUS.CMD_ERR <- 1` (R105). -/
def State.illegalCommand (s : State) : State := s.setCmdErr true

/-- `Init()` (R103). STATUS.M needs no write: it is read from A.POLY (log 14). -/
def State.runInit (s : State) : State :=
  (s.latchConfig.buildField.buildGenerator.setCodeOut (some 0)).setInitDone true

/-- `Encode(): reg.CODE_OUT <- EncodeOp(reg.DATA_IN)` (R104). -/
def State.runEncode (s : State) : State := s.setCodeOut (encodeOp s s.dataIn)

/-- The dispatch of R101: exactly one arm runs for every word. -/
def State.runCommand (s : State) (w : Word) : State :=
  if cmdRsvd w ≠ 0#28 then s.illegalCommand
  else if cmdOp w = 0x0#4 then s
  else if cmdOp w = 0x1#4 then s.runInit
  else if cmdOp w = 0x2#4 then s.runEncode
  else s.illegalCommand

/-- NOP: "no state changes" (R102). -/
def execNop (s : State) : Out := .next s

/-- INIT (R103). -/
def execInit (s : State) : Out := .next s.runInit

/-- ENCODE (R104). -/
def execEncode (s : State) : Out := .next s.runEncode

/-- ILLEGAL_OP: the command is dropped and CMD_ERR is set, whatever the reserved OP (R105). -/
def execIllegalOp (_op : BitVec 4) (s : State) : Out := .next s.illegalCommand

/-- ILLEGAL_RSVD: the command is dropped and CMD_ERR is set, whatever the word (R105). -/
def execIllegalRsvd (_w : Word) (s : State) : Out := .next s.illegalCommand

end Sys2Proof.Machine
end

