-- ==== Sys2Proof/Machine/RegWrite.lean ====
section
/-! DEFINITION. Machine/RegWrite.lean: the host writes, and the bus error of a wrong-size or misaligned access
(44_register_access.md). -/

namespace Sys2Proof.Machine

open Sys2Proof

/-- WR_CMD: `Dispatch(w)`; "the write completes after the command" (R181, R100). -/
def execWrCmd (w : Word) (s : State) : Out := completeWrite (s.runCommand w)

/-- WR_STATUS: bit 3 written 1 clears CMD_ERR, every other bit is ignored (R183). -/
def execWrStatus (w : Word) (s : State) : Out := completeWrite (s.setCmdErr (cmdErrAfterWrite w s.cmdErr))

/-- WR_CFG_N: `reg.CFG_N[7:0] <- w[7:0]` (R185). -/
def execWrCfgN (w : Word) (s : State) : Out := completeWrite (s.setCfgN (low8 w))

/-- WR_CFG_K: `reg.CFG_K[7:0] <- w[7:0]` (R187). -/
def execWrCfgK (w : Word) (s : State) : Out := completeWrite (s.setCfgK (low8 w))

/-- WR_CFG_POLY: `reg.CFG_POLY <- w` (R189). -/
def execWrCfgPoly (w : Word) (s : State) : Out := completeWrite (s.setCfgPoly w)

/-- WR_DATA_IN: `reg.DATA_IN <- w` (R191). -/
def execWrDataIn (w : Word) (s : State) : Out := completeWrite (s.setDataIn w)

/-- WR_CODE_OUT: the write is ignored (R198). -/
def execWrCodeOut (_w : Word) (s : State) : Out := completeWrite s

/-- WR_GEN: the write is ignored (R199). -/
def execWrGen (_w : Word) (s : State) : Out := completeWrite s

/-- WR_TAB_SEL: `IDX <- w[7:0]; TSEL <- w[8]` (R195). -/
def execWrTabSel (w : Word) (s : State) : Out := completeWrite (s.setTabSel (low9 w))

/-- WR_TAB_DATA: the write is ignored (R200). -/
def execWrTabData (_w : Word) (s : State) : Out := completeWrite s

/-- WR_PARAM: the write is ignored (R201). -/
def execWrParam (_w : Word) (s : State) : Out := completeWrite s

/-- WR_RSVD: the write is ignored, no bus error (R203). -/
def execWrRsvd (_offset : BitVec 6) (_w : Word) (s : State) : Out := completeWrite s

/-- MISALIGNED: `raise BusError(addr − BASE)` with no state change, read or write (R204). -/
def execMisaligned (_we : Bool) (offset : BitVec 6) (size : AccessSize) (_s : State) : Out := raiseBusError offset size

end Sys2Proof.Machine
end

