-- ==== Sys2Proof/Machine/Dispatch.lean ====
section
/-! DEFINITION. Machine/Dispatch.lean: one arm per constructor of Instr. -/

namespace Sys2Proof.Machine

open Sys2Proof

def exec (i : Instr) (s : State) : Host.Outcome State Fault Refusal :=
  match i with
  | .nop => Sys2Proof.Machine.execNop s
  | .init => Sys2Proof.Machine.execInit s
  | .encode => Sys2Proof.Machine.execEncode s
  | .illegalOp op => Sys2Proof.Machine.execIllegalOp op s
  | .illegalRsvd w => Sys2Proof.Machine.execIllegalRsvd w s
  | .rdCmd => Sys2Proof.Machine.execRdCmd s
  | .wrCmd w => Sys2Proof.Machine.execWrCmd w s
  | .rdStatus => Sys2Proof.Machine.execRdStatus s
  | .wrStatus w => Sys2Proof.Machine.execWrStatus w s
  | .rdCfgN => Sys2Proof.Machine.execRdCfgN s
  | .wrCfgN w => Sys2Proof.Machine.execWrCfgN w s
  | .rdCfgK => Sys2Proof.Machine.execRdCfgK s
  | .wrCfgK w => Sys2Proof.Machine.execWrCfgK w s
  | .rdCfgPoly => Sys2Proof.Machine.execRdCfgPoly s
  | .wrCfgPoly w => Sys2Proof.Machine.execWrCfgPoly w s
  | .rdDataIn => Sys2Proof.Machine.execRdDataIn s
  | .wrDataIn w => Sys2Proof.Machine.execWrDataIn w s
  | .rdCodeOut => Sys2Proof.Machine.execRdCodeOut s
  | .wrCodeOut w => Sys2Proof.Machine.execWrCodeOut w s
  | .rdGen => Sys2Proof.Machine.execRdGen s
  | .wrGen w => Sys2Proof.Machine.execWrGen w s
  | .rdTabSel => Sys2Proof.Machine.execRdTabSel s
  | .wrTabSel w => Sys2Proof.Machine.execWrTabSel w s
  | .rdTabData => Sys2Proof.Machine.execRdTabData s
  | .wrTabData w => Sys2Proof.Machine.execWrTabData w s
  | .rdParam => Sys2Proof.Machine.execRdParam s
  | .wrParam w => Sys2Proof.Machine.execWrParam w s
  | .rdRsvd offset => Sys2Proof.Machine.execRdRsvd offset s
  | .wrRsvd offset w => Sys2Proof.Machine.execWrRsvd offset w s
  | .misaligned we offset size => Sys2Proof.Machine.execMisaligned we offset size s

end Sys2Proof.Machine
end

