-- ==== Sys2Proof/Machine/Step.lean ====
section
/-! DEFINITION. Machine/Step.lean: one step performs the next event of the host (20_memory.md R69): an access runs the
instruction it decodes to (30_encoding.md R85), a reset edge acts as R230 says; with nothing pending the block idles. -/

namespace Sys2Proof.Machine

open Sys2Proof

/-- One host access, already taken from the queue: none while reset is asserted (R230, log 8), none outside the window
(R60, log 7), otherwise the instruction its code decodes to. -/
def performAccess (a : Access) (s : State) : Out :=
  if s.inReset then .fault .heldInReset
  else if a.inWindow s.config then exec (decode a.code) s
  else .fault (.outsideWindow a.addr)

/-- One event of the host. -/
def performEvent (e : HostEvent) (s : State) : Out :=
  match e with
  | .access a => performAccess a s
  | .assertReset => .next (assertReset s)
  | .releaseReset => .next (releaseReset s)

/-- One step: the first pending event, "one at a time, in the order the host issues them" (R69). With none pending all
state persists (R220) and the block goes on: it has no halt state (R241; log 9). -/
def step (s : State) : Host.Outcome State Fault Refusal :=
  match s.pending with
  | [] => .next s
  | e :: rest => performEvent e (s.setPending rest)

/-- The access whose step runs the table row's number: a command word is a write of it to CMD (R100), a descriptor is
the access it describes, with the data word 0 (log 12). -/
def accessOfTableWord (c : Config) (nbits w : Nat) : Access :=
  if 16 < nbits then accessOfDescriptor c 0x100#9 (BitVec.ofNat 32 w)
  else accessOfDescriptor c (BitVec.ofNat 9 w) 0

/-- The state with that access first in the queue and the reset input released, so that the next step runs it
(log 1). -/
def State.withFetchWord (s : State) (nbits w : Nat) : State :=
  (s.setInReset false).setPending (.access (accessOfTableWord s.config nbits w) :: s.pending)

end Sys2Proof.Machine
end

