-- ==== Sys2Proof/Machine/HostProgram.lean ====
section
/-! DEFINITION. Machine/HostProgram.lean: the host's lines and pseudo-instructions (30_encoding.md R87, R88) as lists of
accesses for `State.pending`. -/

namespace Sys2Proof.Machine

open Sys2Proof

/-- `WR <REG>, <value>`: `MemWrite(BASE + offset(REG), 4, value)` (R87), the register given by its offset. -/
def wr (c : Config) (offset : BitVec 6) (value : Word) : HostEvent :=
  .access { addr := c.base + offset.toNat, size := .word, we := true, data := value }

/-- `RD <REG>`: `MemRead(BASE + offset(REG), 4)` (R87). -/
def rd (c : Config) (offset : BitVec 6) : HostEvent :=
  .access { addr := c.base + offset.toNat, size := .word, we := false, data := 0 }

/-- `CMD <MNEMONIC>`: `WR CMD, <word>` (R87). -/
def cmd (c : Config) (word : Word) : HostEvent := wr c 0x00#6 word

/-- `INITIALIZE n, k, poly` (R88). -/
def initializeLines (c : Config) (n k poly : Word) : List HostEvent :=
  [wr c 0x08#6 n, wr c 0x0C#6 k, wr c 0x10#6 poly, cmd c 0x00000001#32]

/-- `ENCODEW d` (R88). -/
def encodewLines (c : Config) (d : Word) : List HostEvent :=
  [wr c 0x14#6 d, cmd c 0x00000002#32, rd c 0x18#6]

/-- `TABRD t, i` (R88): t is 0 for alphaTo and 1 for indexOf. -/
def tabrdLines (c : Config) (t i : Word) : List HostEvent :=
  [wr c 0x20#6 ((t <<< 8) ||| i), rd c 0x24#6]

/-- `CLRERR` (R88). -/
def clrerrLines (c : Config) : List HostEvent := [wr c 0x04#6 0x00000008#32]

end Sys2Proof.Machine
end

