-- ==== Sys2Proof/Safety.lean ====
section
/-! DEFINITION. Safety.lean: the words claims are stated in: the conditions of 60_exceptions.md R212, and the
invariants of the machine's state. -/

namespace Sys2Proof.Machine

open Sys2Proof

/-! ## The conditions of R212 -/

/-- "Error and anomaly conditions, with the spec's identifier for each" (R212). -/
inductive Condition where
  | eBusSize
  | eBusAlign
  | eCmdIllegal
  | aFieldInvalid
  | aKGeN
  | aGenDegree
  | aDataOversize
  | aNotInit
deriving DecidableEq, Repr

/-- `c` when `b` holds. -/
def conditionIf (b : Bool) (c : Condition) : List Condition := if b then [c] else []

/-- The conditions of INIT, read from the state it leaves (R212). -/
def initConditions (t : State) : List Condition :=
  conditionIf (!t.fieldOk) .aFieldInvalid ++ conditionIf (decide (t.n ≤ t.k)) .aKGeN
    ++ conditionIf (match t.gAcc with | some g => decide (deg g.toNat ≠ t.p) | none => false) .aGenDegree

/-- The conditions of ENCODE (R212). -/
def encodeConditions (s : State) : List Condition :=
  conditionIf (decide (2 ^ s.k ≤ s.dataIn.toNat)) .aDataOversize ++ conditionIf (!s.initDone) .aNotInit

/-- The conditions of a command word (R212). -/
def commandConditions (w : Word) (s : State) : List Condition :=
  if cmdRsvd w ≠ 0#28 then [.eCmdIllegal]
  else if cmdOp w = 0x0#4 then []
  else if cmdOp w = 0x1#4 then initConditions s.runInit
  else if cmdOp w = 0x2#4 then encodeConditions s
  else [.eCmdIllegal]

/-- The conditions that hold when `i` is performed in `s`, each raised by the access or command R212 names. -/
def conditionsOf (i : Instr) (s : State) : List Condition :=
  match i with
  | .misaligned _ offset size =>
    conditionIf (decide (size ≠ .word)) .eBusSize ++ conditionIf (decide (offset.toNat % 4 ≠ 0)) .eBusAlign
  | .illegalOp _ | .illegalRsvd _ => [.eCmdIllegal]
  | .init => initConditions s.runInit
  | .encode => encodeConditions s
  | .wrCmd w => commandConditions w s
  | .nop | .rdCmd | .rdStatus | .wrStatus _ | .rdCfgN | .wrCfgN _ | .rdCfgK | .wrCfgK _ | .rdCfgPoly | .wrCfgPoly _
  | .rdDataIn | .wrDataIn _ | .rdCodeOut | .wrCodeOut _ | .rdGen | .wrGen _ | .rdTabSel | .wrTabSel _ | .rdTabData
  | .wrTabData _ | .rdParam | .wrParam _ | .rdRsvd _ | .wrRsvd _ _ => []

/-! ## Shapes of instructions -/

/-- A host read (44_register_access.md, RD_ rows). -/
def isRead : Instr → Bool
  | .rdCmd | .rdStatus | .rdCfgN | .rdCfgK | .rdCfgPoly | .rdDataIn | .rdCodeOut | .rdGen | .rdTabSel | .rdTabData
  | .rdParam | .rdRsvd _ => true
  | .nop | .init | .encode | .illegalOp _ | .illegalRsvd _ | .wrCmd _ | .wrStatus _ | .wrCfgN _ | .wrCfgK _
  | .wrCfgPoly _ | .wrDataIn _ | .wrCodeOut _ | .wrGen _ | .wrTabSel _ | .wrTabData _ | .wrParam _ | .wrRsvd _ _
  | .misaligned _ _ _ => false

/-- The next pending event is the aligned 32-bit write of `w` to the offset `offset` of the window. -/
def State.nextIsWrite (s : State) (offset : BitVec 6) (w : Word) : Prop :=
  ∃ rest, s.pending = .access ⟨s.config.base + offset.toNat, .word, true, w⟩ :: rest

/-- The next pending event releases an asserted reset (R230). -/
def State.nextIsReset (s : State) : Prop :=
  s.inReset = true ∧ ∃ rest, s.pending = .releaseReset :: rest

/-! ## Invariants -/

/-- The tables hold a valid field: R127's order condition and R128's inverse property, the sentinel of R123, ⊥ above n
(R124). -/
def ValidField (s : State) : Prop :=
  1 ≤ s.aM ∧ s.aM ≤ s.config.mMax ∧ s.n = 2 ^ s.aM - 1
    ∧ s.alphaTo[0]? = some (some (1 : Word)) ∧ s.alphaTo[s.n]? = some (some (1 : Word))
    ∧ s.indexOf[0]? = some (some (-1 : Word))
    ∧ (∀ i, i < s.n → ∃ a : Word, s.alphaTo[i]? = some (some a) ∧ 1 ≤ a.toNat ∧ a.toNat ≤ s.n
        ∧ s.indexOf[a.toNat]? = some (some (BitVec.ofNat 32 i) : Stored))
    ∧ (∀ i, s.n < i → i ≤ s.nMax → s.alphaTo[i]? = some (none : Stored) ∧ s.indexOf[i]? = some (none : Stored))

/-- The parameters are legal, both tables have N_MAX + 1 entries, A.N and A.K are 8-bit values, FIELD_OK = 1 says that
the tables hold a valid field, FIELD_OK = 0 leaves every indexOf entry at ⊥ (R129), and before the first INIT nothing is
built (R231). -/
def TableInv (s : State) : Prop :=
  s.config.wf ∧ s.alphaTo.length = s.nMax + 1 ∧ s.indexOf.length = s.nMax + 1 ∧ s.n < 256 ∧ s.k < 256
    ∧ (s.fieldOk = true → ValidField s)
    ∧ (s.fieldOk = false → ∀ i, i ≤ s.nMax → s.indexOf[i]? = some (none : Stored))
    ∧ (s.initDone = false → s.fieldOk = false ∧ s.genOk = false ∧ s.gAcc = none)

/-- g is a generator of degree n − k for the active configuration, with leading and constant coefficients 1
(R140, R146). -/
def GenReady (s : State) (g : Word) : Prop :=
  s.genOk = true ∧ s.gAcc = some g ∧ s.k < s.n ∧ s.n ≤ 31 ∧ deg g.toNat = s.p
    ∧ g.toNat.testBit 0 = true ∧ g.toNat.testBit s.p = true

/-- GEN_OK = 1 says that the generator is ready; GDEG and GEN_OK agree with g_acc (R146, R147), whose degree lies
between n − k and n (R148); GDEG and GEN_OK are 0 while g_acc holds ⊥ (R149). -/
def GenInv (s : State) : Prop :=
  (∀ g, s.gAcc = some g → s.fieldOk = true ∧ s.k < s.n ∧ s.p ≤ deg g.toNat ∧ deg g.toNat ≤ s.n
      ∧ s.gdeg.toNat = deg g.toNat ∧ (s.genOk = true ↔ deg g.toNat = s.p) ∧ (s.genOk = true → GenReady s g))
    ∧ (s.gAcc = none → s.genOk = false ∧ s.gdeg = 0)

/-- CODE_OUT holds ⊥, or a code word: below 2^n (R27) and a multiple of the generator (R164); 0 without one. -/
def CodeInv (s : State) : Prop :=
  ∀ c, s.codeOut = some c → c.toNat < 2 ^ s.n ∧ (s.genOk = false → c = 0)
    ∧ ∀ g, s.genOk = true → s.gAcc = some g → pmod c.toNat g.toNat = 0

end Sys2Proof.Machine
end

