-- ==== Sys2Proof/Certificates/Slice0/Obligations.lean ====
section
/-! DEFINITION. Certificates/Slice0/Obligations.lean: the statements about the model, each with the rule of spec/ it
formalises. `{ s with f := v }` says what changes and that every other field of the state is unchanged. -/

open Sys2Proof Sys2Proof.Machine

/-! ## Encoding -/

/-- R80, R81, R85, R86: decoding the encoding of a well-formed instruction gives it back, every operand at every
value. -/
def Obligations.DecodeOfEncodeIsIdentity : Prop :=
  ∀ i : Instr, i.wellFormed = true → decode (encode i) = i

/-- R84, R85: the decoder is total and gives well-formed instructions only. -/
def Obligations.DecodedIsWellFormed : Prop :=
  ∀ c : Code, (decode c).wellFormed = true

/-- R84: a command word is the encoding of exactly one instruction, so no bit of it is dropped. -/
def Obligations.CommandWordIsEncodedByItsInstruction : Prop :=
  ∀ w : Word, encode (decodeCommand w) = .cmd w ∧ ∀ i, i.wellFormed = true → encode i = .cmd w → i = decodeCommand w

/-- R83: which command words are legal; every other word performs no operation and sets CMD_ERR, with no trap. -/
def Obligations.LegalCommandWords : Prop :=
  ∀ (w : Word) (s : State),
    ((w.extractLsb' 4 28 = 0 ∧ (w.extractLsb' 0 4 = 0x0#4 ∨ w.extractLsb' 0 4 = 0x1#4 ∨ w.extractLsb' 0 4 = 0x2#4))
      ↔ (decodeCommand w = .nop ∨ decodeCommand w = .init ∨ decodeCommand w = .encode))
    ∧ (¬(w.extractLsb' 4 28 = 0 ∧ (w.extractLsb' 0 4 = 0x0#4 ∨ w.extractLsb' 0 4 = 0x1#4 ∨ w.extractLsb' 0 4 = 0x2#4))
      → exec (.wrCmd w) s = .next { s with cmdErr := true, response := .written })

/-- R86: the access descriptor map, one entry per offset and direction. -/
def Obligations.AccessDescriptorMap : Prop :=
  ∀ d : Word,
    (decode (.bus .word 0x000#9 d) = .rdCmd ∧ decode (.bus .word 0x100#9 d) = .wrCmd d
      ∧ decode (.bus .word 0x004#9 d) = .rdStatus ∧ decode (.bus .word 0x104#9 d) = .wrStatus d
      ∧ decode (.bus .word 0x008#9 d) = .rdCfgN ∧ decode (.bus .word 0x108#9 d) = .wrCfgN d
      ∧ decode (.bus .word 0x00C#9 d) = .rdCfgK ∧ decode (.bus .word 0x10C#9 d) = .wrCfgK d
      ∧ decode (.bus .word 0x010#9 d) = .rdCfgPoly ∧ decode (.bus .word 0x110#9 d) = .wrCfgPoly d
      ∧ decode (.bus .word 0x014#9 d) = .rdDataIn ∧ decode (.bus .word 0x114#9 d) = .wrDataIn d
      ∧ decode (.bus .word 0x018#9 d) = .rdCodeOut ∧ decode (.bus .word 0x118#9 d) = .wrCodeOut d
      ∧ decode (.bus .word 0x01C#9 d) = .rdGen ∧ decode (.bus .word 0x11C#9 d) = .wrGen d
      ∧ decode (.bus .word 0x020#9 d) = .rdTabSel ∧ decode (.bus .word 0x120#9 d) = .wrTabSel d
      ∧ decode (.bus .word 0x024#9 d) = .rdTabData ∧ decode (.bus .word 0x124#9 d) = .wrTabData d
      ∧ decode (.bus .word 0x028#9 d) = .rdParam ∧ decode (.bus .word 0x128#9 d) = .wrParam d)
    ∧ (∀ o : BitVec 6, o = 0x2C#6 ∨ o = 0x30#6 ∨ o = 0x34#6 ∨ o = 0x38#6 ∨ o = 0x3C#6 →
      decode (.bus .word (o.setWidth 9) d) = .rdRsvd o ∧ decode (.bus .word (0x100#9 ||| o.setWidth 9) d) = .wrRsvd o d)
    ∧ (∀ o : BitVec 6, o.extractLsb' 0 2 ≠ 0 →
      decode (.bus .word (o.setWidth 9) d) = .misaligned false o .word
        ∧ decode (.bus .word (0x100#9 ||| o.setWidth 9) d) = .misaligned true o .word)

/-- A sanity statement: a few numbers of the table's rows, one of each family, decode to the row's instruction. That a
number of 8 or 16 bits is a descriptor with the data word 0, and one of 32 bits a command word, is the model's reading of
the table (log 12). -/
def Obligations.TableRowWordsDecode : Prop :=
  decodeTableWord 32 0x00000000 = some .nop ∧ decodeTableWord 32 0x00000001 = some .init
    ∧ decodeTableWord 32 0x00000002 = some .encode ∧ decodeTableWord 32 0x00000003 = some (.illegalOp 0x3#4)
    ∧ decodeTableWord 32 0x80000002 = some (.illegalRsvd 0x80000002#32) ∧ decodeTableWord 16 0x004 = some .rdStatus
    ∧ decodeTableWord 16 0x108 = some (.wrCfgN 0) ∧ decodeTableWord 16 0x03C = some (.rdRsvd 0x3C#6)
    ∧ decodeTableWord 8 0x001 = some (.misaligned false 0x01#6 .word)

/-! ## The step -/

/-- R69, R85: when reset is not asserted and the next pending event is an access in the window, the step is exec of
the instruction that the access's size, descriptor and data word decode to, with that event taken from the queue. -/
def Obligations.StepRunsTheDecodedAccess : Prop :=
  ∀ (s : State) (a : Access) (rest : List HostEvent) (i : Instr),
    s.pending = .access a :: rest → s.inReset = false → s.config.base ≤ a.addr → a.addr < s.config.base + 64 →
    decode (.bus a.size (descriptor a.we (BitVec.ofNat 6 a.addr)) (if a.we then a.data else 0)) = i →
    step s = exec i { s with pending := rest }

/-- The model's placing of a table row's number (logs 1 and 12): the next step runs the row's instruction, a command
word through the write of CMD that submits it (R100). -/
def Obligations.FetchedTableWordIsRun : Prop :=
  ∀ (s : State) (nbits w : Nat) (i : Instr),
    s.config.base % 64 = 0 → decodeTableWord nbits w = some i →
    step (s.withFetchWord nbits w) =
      exec (if 16 < nbits then .wrCmd (BitVec.ofNat 32 w) else i) { s with inReset := false }

/-- R38: the reset value of every state element, for every value of the parameters; CMD, PARAM and the reserved
offsets are not storage; the model's reset state takes M_MAX = 5 (R8). -/
def Obligations.ResetValues : Prop :=
  (∀ c : Config,
    let s := State.atReset c
    exec .rdStatus s = .next { s with response := .data 0x00000000#32 }
      ∧ (s.fieldOk = false ∧ s.genOk = false ∧ s.initDone = false ∧ s.cmdErr = false ∧ s.aM = 0 ∧ s.gdeg = 0)
      ∧ s.cfgN = 0 ∧ s.cfgK = 0 ∧ s.cfgPoly = 0 ∧ s.dataIn = 0 ∧ s.codeOut = some 0 ∧ s.tabSel = 0
      ∧ s.aN = 0 ∧ s.aK = 0 ∧ s.aPoly = 0
      ∧ s.alphaTo = List.replicate (2 ^ c.mMax - 1 + 1) none ∧ s.indexOf = List.replicate (2 ^ c.mMax - 1 + 1) none
      ∧ s.gAcc = none
      ∧ exec .rdCmd s = .next { s with response := .data 0 }
      ∧ exec .rdParam s = .next { s with response := .data (BitVec.ofNat 32 (2 ^ c.mMax - 1) <<< 8 ||| BitVec.ofNat 32 c.mMax) }
      ∧ ∀ o, exec (.rdRsvd o) s = .next { s with response := .data 0 })
    ∧ State.reset.config.mMax = 5 ∧ State.reset = State.atReset State.reset.config

/-- R230, R220 and the model's reading of them (logs 8 and 9): an empty queue idles; asserting reset changes the level
only; releasing an asserted reset gives every element its reset value and keeps the parameters, the events still to
come and the count of free values; an access under an asserted reset has no step. -/
def Obligations.ResetInputAndIdleSteps : Prop :=
  ∀ (s : State) (rest : List HostEvent),
    (s.pending = [] → step s = .next s)
    ∧ (s.pending = .assertReset :: rest → step s = .next { s with pending := rest, inReset := true })
    ∧ (s.pending = .releaseReset :: rest → s.inReset = true →
        step s = .next { State.atReset s.config with pending := rest, freeCount := s.freeCount })
    ∧ (s.pending = .releaseReset :: rest → s.inReset = false → step s = .next { s with pending := rest })
    ∧ (∀ a, s.pending = .access a :: rest → s.inReset = true → step s = .fault .heldInReset)

/-- R106, R210: no instruction is left without a meaning: no step is refused. -/
def Obligations.StepIsNeverRefused : Prop :=
  ∀ (s : State) (r : Refusal), step s ≠ .refused r

/-- R62, R106, R210: what stops a step: an access of a wrong size or misaligned (log 6), and, by the model's own
choices, one under an asserted reset (log 8) or outside the window (log 7); nothing else, whatever the command or the
data. -/
def Obligations.StepFaultsExactly : Prop :=
  ∀ s : State,
    (∃ f, step s = .fault f) ↔
      ∃ a rest, s.pending = .access a :: rest ∧
        (s.inReset = true ∨ a.addr < s.config.base ∨ s.config.base + 64 ≤ a.addr ∨ a.size ≠ .word ∨ a.addr % 4 ≠ 0)

/-- R8, R60, R69: a step never changes M_MAX or BASE and takes exactly the first pending event. -/
def Obligations.StepKeepsParametersAndTakesOneEvent : Prop :=
  ∀ s t : State, step s = .next t → t.config = s.config ∧ t.pending = s.pending.tail

/-! ## Commands -/

/-- R100, R101, R181: a write of CMD performs the command its word decodes to, completes, and only adds the response
of the write. Every word completes (R106). -/
def Obligations.CmdWriteRunsItsCommand : Prop :=
  ∀ (w : Word) (s : State),
    ∃ t, exec (decodeCommand w) s = .next t ∧ exec (.wrCmd w) s = .next { t with response := .written }

/-- R102: the word 0x00000000 is NOP, and NOP changes no state. -/
def Obligations.NopChangesNothing : Prop :=
  decodeCommand 0x00000000#32 = .nop ∧ ∀ s : State, exec .nop s = .next s

/-- R105: an illegal command word sets CMD_ERR and changes nothing else, whatever its OP and RSVD. -/
def Obligations.IllegalCommandSetsOnlyCmdErr : Prop :=
  ∀ (op : BitVec 4) (w : Word) (s : State),
    exec (.illegalOp op) s = .next { s with cmdErr := true } ∧ exec (.illegalRsvd w) s = .next { s with cmdErr := true }

/-- R212: the bus errors are exactly the faults of a well-formed instruction; an illegal command word is recorded in
CMD_ERR. -/
def Obligations.OnlyBusErrorsFault : Prop :=
  ∀ (i : Instr) (s : State), i.wellFormed = true →
    ((∃ f, exec i s = .fault f) ↔ (.eBusSize ∈ conditionsOf i s ∨ .eBusAlign ∈ conditionsOf i s))
    ∧ (.eCmdIllegal ∈ conditionsOf i s → ∃ r, exec i s = .next { s with cmdErr := true, response := r })

/-- R212: after an INIT with A_FIELD_INVALID, A_K_GE_N or A_GEN_DEGREE, and for an ENCODE with A_DATA_OVERSIZE or
A_NOT_INIT, ENCODE completes and leaves CODE_OUT at ⊥. -/
def Obligations.AnomaliesMakeEncodeUnconstrained : Prop :=
  (∀ s : State, s.config.wf → ∃ t, exec .init s = .next t ∧
      ((.aFieldInvalid ∈ conditionsOf .init s ∨ .aKGeN ∈ conditionsOf .init s ∨ .aGenDegree ∈ conditionsOf .init s)
        → exec .encode t = .next { t with codeOut := none }))
    ∧ ∀ s : State, TableInv s → (.aDataOversize ∈ conditionsOf .encode s ∨ .aNotInit ∈ conditionsOf .encode s) →
        exec .encode s = .next { s with codeOut := none }

/-! ## INIT -/

/-- R103, R230: INIT completes in every state; it latches the staged configuration, clears CODE_OUT, sets INIT_DONE,
and leaves the staging registers, DATA_IN, TAB_SEL, CMD_ERR, the parameters and the interface fields as they are. -/
def Obligations.InitLatchesAndFrames : Prop :=
  ∀ s : State, ∃ t, exec .init s = .next t
    ∧ t.aN = s.cfgN.setWidth 32 ∧ t.aK = s.cfgK.setWidth 32 ∧ t.aPoly = s.cfgPoly
    ∧ t.codeOut = some 0 ∧ t.initDone = true
    ∧ t = { s with aN := t.aN, aK := t.aK, aPoly := t.aPoly, alphaTo := t.alphaTo, indexOf := t.indexOf,
                   fieldOk := t.fieldOk, gAcc := t.gAcc, gdeg := t.gdeg, genOk := t.genOk, codeOut := t.codeOut,
                   initDone := t.initDone }

/-- R121, R124: the exponential table INIT builds: powers of two below m, the poly-derived element at m, then shift
and reduce up to n, ⊥ above n; both tables ⊥ and FIELD_OK = 0 outside the range of R121's first arm. -/
def Obligations.InitBuildsAlphaByTheRecurrence : Prop :=
  ∀ s : State, s.config.wf → ∃ t, exec .init s = .next t ∧
    let m := deg s.cfgPoly.toNat
    let n := s.cfgN.toNat
    let nMax := 2 ^ s.config.mMax - 1
    ((1 ≤ m ∧ m ≤ s.config.mMax ∧ m ≤ n ∧ n ≤ nMax) →
      (∀ i, i < m → t.alphaTo[i]? = some (some (1#32 <<< i)))
      ∧ t.alphaTo[m]? = some (some (s.cfgPoly ^^^ (1#32 <<< m)))
      ∧ (∀ i, m ≤ i → i < n → ∃ a : Word, t.alphaTo[i]? = some (some a) ∧
          t.alphaTo[i + 1]? = some (some (if (a <<< 1).getLsbD m then (a <<< 1) ^^^ s.cfgPoly else a <<< 1)))
      ∧ (∀ i, n < i → i ≤ nMax → t.alphaTo[i]? = some (none : Stored)))
    ∧ (¬(1 ≤ m ∧ m ≤ s.config.mMax ∧ m ≤ n ∧ n ≤ nMax) →
      t.fieldOk = false ∧ ∀ i, i ≤ nMax → t.alphaTo[i]? = some (none : Stored) ∧ t.indexOf[i]? = some (none : Stored))

/-- The spec's own inference under R121: "every entry satisfies alphaTo[i] = x^i mod A.POLY". -/
def Obligations.AlphaEntriesArePowersOfX : Prop :=
  ∀ s : State, s.config.wf → 1 ≤ deg s.cfgPoly.toNat → deg s.cfgPoly.toNat ≤ s.config.mMax →
    deg s.cfgPoly.toNat ≤ s.cfgN.toNat → s.cfgN.toNat ≤ 2 ^ s.config.mMax - 1 →
    ∃ t, exec .init s = .next t ∧
      ∀ i, i ≤ s.cfgN.toNat → t.alphaTo[i]? = some (some (BitVec.ofNat 32 (pmod (2 ^ i) s.cfgPoly.toNat)))

/-- R127: FIELD_OK = 1 exactly when the field is valid; then x has order exactly n modulo A.POLY, and the source's
formula ceil(log2(n+1)) gives the same m. -/
def Obligations.FieldOkExactlyWhenValid : Prop :=
  ∀ s : State, s.config.wf → ∃ t, exec .init s = .next t ∧
    let m := deg s.cfgPoly.toNat
    let n := s.cfgN.toNat
    (t.fieldOk = true ↔
      (1 ≤ m ∧ m ≤ s.config.mMax) ∧ (m ≤ n ∧ n ≤ 2 ^ s.config.mMax - 1) ∧ n = 2 ^ m - 1
        ∧ t.alphaTo[n]? = some (some (1 : Word)) ∧ ∀ i, 1 ≤ i → i ≤ n - 1 → t.alphaTo[i]? ≠ some (some (1 : Word)))
    ∧ (t.fieldOk = true →
      pmod (2 ^ n) s.cfgPoly.toNat = 1 ∧ (∀ i, 1 ≤ i → i < n → pmod (2 ^ i) s.cfgPoly.toNat ≠ 1)
        ∧ Nat.clog 2 (n + 1) = m)

/-- R123, R128 and the spec's own inference under R128: with FIELD_OK = 1 the tables are inverse to each other,
alphaTo closes at n, and the log of zero is the sentinel −1. -/
def Obligations.ValidFieldTablesAreInverse : Prop :=
  ∀ s : State, s.config.wf → ∃ t, exec .init s = .next t ∧ (t.fieldOk = true →
    t.alphaTo[0]? = some (some (1 : Word)) ∧ t.alphaTo[t.n]? = t.alphaTo[0]?
    ∧ (∀ i, i < t.n → ∃ a : Word, t.alphaTo[i]? = some (some a)
        ∧ t.indexOf[a.toNat]? = some (some (BitVec.ofNat 32 i) : Stored))
    ∧ (∀ x, 1 ≤ x → x ≤ t.n → ∃ j : Word, t.indexOf[x]? = some (some j)
        ∧ t.alphaTo[j.toNat]? = some (some (BitVec.ofNat 32 x) : Stored))
    ∧ t.indexOf[0]? = some (some 0xFFFFFFFF#32))

/-- The spec's own inference under R125: the range of every defined entry after INIT. -/
def Obligations.TableEntryRanges : Prop :=
  ∀ s : State, s.config.wf → ∃ t, exec .init s = .next t ∧
    (∀ (i : Nat) (a : Word), t.alphaTo[i]? = some (some a) → a.toNat ≤ 2 ^ t.aM - 1)
    ∧ (∀ (i : Nat) (j : Word), t.indexOf[i]? = some (some j) → j = -1 ∨ j.toNat ≤ t.n - 1)

/-- R129, R149: an INIT that leaves FIELD_OK = 0 leaves every indexOf entry and g_acc at ⊥, GEN_OK and GDEG at 0, and
a later ENCODE yields ⊥; it still completes. -/
def Obligations.InvalidFieldLeavesBottoms : Prop :=
  ∀ s : State, ∃ t, exec .init s = .next t ∧ (t.fieldOk = false →
    (∀ i, i ≤ 2 ^ s.config.mMax - 1 → t.indexOf[i]? = some (none : Stored))
      ∧ t.gAcc = none ∧ t.genOk = false ∧ t.gdeg = 0
      ∧ exec .encode t = .next { t with codeOut := none })

/-- R146, R147, R149: GEN_OK = 1 exactly when FIELD_OK = 1, A.K < A.N and the degree is n − k; GEN_OK = 0 makes no
operation fail; GDEG is the degree, in 1 to 31, when the builder ran; g_acc is ⊥, GDEG and GEN_OK are 0 and GEN reads
UNCONSTRAINED when it did not. -/
def Obligations.GeneratorStatusAfterInit : Prop :=
  ∀ s : State, s.config.wf → ∃ t, exec .init s = .next t ∧
    (t.genOk = true ↔ t.fieldOk = true ∧ t.k < t.n ∧ ∃ g : Word, t.gAcc = some g ∧ deg g.toNat = t.n - t.k)
    ∧ (t.genOk = false → exec .encode t = .next { t with codeOut := none })
    ∧ ((t.fieldOk = true ∧ t.k < t.n) →
        ∃ g : Word, t.gAcc = some g ∧ t.gdeg.toNat = deg g.toNat ∧ 1 ≤ deg g.toNat ∧ deg g.toNat ≤ 31)
    ∧ (¬(t.fieldOk = true ∧ t.k < t.n) →
        t.gAcc = none ∧ t.gdeg = 0 ∧ t.genOk = false
          ∧ exec .rdGen t = .next { t with response := .data (Config.freeValue t.freeCount),
                                           freeCount := t.freeCount + 1 })

/-- The spec's own inferences under R148 and R146: after BuildGenerator n − k ≤ deg(g_acc) ≤ n, the only failure is
overshoot, and with GEN_OK = 1 the leading (x^(n−k)) and constant coefficients are 1. -/
def Obligations.GeneratorDegreeAndEndCoefficients : Prop :=
  ∀ s : State, s.config.wf → ∃ t, exec .init s = .next t ∧
    ∀ g : Word, t.gAcc = some g →
      t.n - t.k ≤ deg g.toNat ∧ deg g.toNat ≤ t.n ∧ (t.genOk = false → t.n - t.k < deg g.toNat)
        ∧ (t.genOk = true → g.toNat.testBit (t.n - t.k) = true ∧ g.toNat.testBit 0 = true)

/-- The spec's reasons under R142 and R148: the generator is a multiple of the minimal polynomial of α, which is
A.POLY, and divides x^n + 1. -/
def Obligations.GeneratorDividesXnPlusOne : Prop :=
  ∀ s : State, s.config.wf → ∃ t, exec .init s = .next t ∧
    ∀ g : Word, t.gAcc = some g →
      pmod (2 ^ t.n + 1) g.toNat = 0 ∧ pmod g.toNat t.aPoly.toNat = 0

/-- R141, R142 and the spec's remarks under them: over a valid field the conjugacy class of e holds e, is closed under
doubling, has no repeats and at most m elements; the coefficients of the minimal polynomial are 0 or 1, its degree is
the size of the class, its bit 0 is 1. -/
def Obligations.MinimalPolynomialsAreBinary : Prop :=
  ∀ s : State, s.config.wf → ∃ t, exec .init s = .next t ∧ (t.fieldOk = true → ∀ e, e < t.n →
    (e ∈ conjClass t.n e ∧ (∀ c ∈ conjClass t.n e, c < t.n ∧ 2 * c % t.n ∈ conjClass t.n e)
      ∧ (conjClass t.n e).Nodup ∧ (conjClass t.n e).length ≤ t.aM)
    ∧ (∀ c ∈ minPolyCoeffs t.n t.alphaTo t.indexOf e, c = 0 ∨ c = 1)
    ∧ deg (minPoly t.n t.alphaTo t.indexOf e) = (conjClass t.n e).length
    ∧ (minPoly t.n t.alphaTo t.indexOf e).testBit 0 = true)

/-! ## ENCODE -/

/-- The spec's own inference under R161: the remainder register after the loop is pmod(d << p, g), and ENCODE answers
(d << p) XOR it, changing CODE_OUT only. -/
def Obligations.EncodeIsLongDivision : Prop :=
  ∀ (s : State) (g : Word), GenReady s g → s.dataIn.toNat < 2 ^ s.k →
    encodeLoop s.dataIn.toNat s.p g.toNat s.k 0 = pmod (s.dataIn.toNat <<< s.p) g.toNat
    ∧ exec .encode s = .next { s with
        codeOut := some (BitVec.ofNat 32 ((s.dataIn.toNat <<< s.p) ^^^ pmod (s.dataIn.toNat <<< s.p) g.toNat)) }

/-- R104, R162: ENCODE completes in every state and changes CODE_OUT only, which becomes ⊥, read as UNCONSTRAINED,
when GEN_OK = 0 or the data word has a bit at position k or above. -/
def Obligations.EncodeUndefinedInputs : Prop :=
  ∀ s : State, (∃ c, exec .encode s = .next { s with codeOut := c })
    ∧ ((s.genOk = false ∨ 2 ^ s.k ≤ s.dataIn.toNat) →
      exec .encode s = .next { s with codeOut := none }
      ∧ exec .rdCodeOut { s with codeOut := none } = .next { s with
          codeOut := none, response := .data (Config.freeValue s.freeCount), freeCount := s.freeCount + 1 })

/-- The spec's own inference under R163: the systematic property, and every code word is below 2^n. -/
def Obligations.EncodeIsSystematic : Prop :=
  ∀ (s : State) (g : Word), GenReady s g → s.dataIn.toNat < 2 ^ s.k →
    ∃ c : Word, exec .encode s = .next { s with codeOut := some c } ∧ c.toNat >>> s.p = s.dataIn.toNat
      ∧ c.toNat < 2 ^ s.n

/-- The spec's own inference under R164: the divisibility property. -/
def Obligations.EncodeIsDivisibleByGenerator : Prop :=
  ∀ (s : State) (g : Word), GenReady s g → s.dataIn.toNat < 2 ^ s.k →
    ∃ c : Word, exec .encode s = .next { s with codeOut := some c } ∧ pmod c.toNat g.toNat = 0

/-- The spec's own inference under R165, and R162: encoding zero yields the zero code word with GEN_OK = 1, and ⊥ with
GEN_OK = 0. -/
def Obligations.EncodeZeroIsZero : Prop :=
  ∀ s : State, s.dataIn = 0 →
    (∀ g : Word, GenReady s g → exec .encode s = .next { s with codeOut := some 0 })
    ∧ (s.genOk = false → exec .encode s = .next { s with codeOut := none })

/-- The spec's own inference under R166: linearity; a code word is the XOR of those of its data bits; EncodeOp(1) = g.
-/
def Obligations.EncodeIsLinear : Prop :=
  ∀ (s : State) (g : Word), GenReady s g → ∃ enc : Word → Word,
    (∀ d : Word, d.toNat < 2 ^ s.k →
      exec .encode { s with dataIn := d } = .next { s with dataIn := d, codeOut := some (enc d) })
    ∧ (∀ a b : Word, a.toNat < 2 ^ s.k → b.toNat < 2 ^ s.k → enc (a ^^^ b) = enc a ^^^ enc b)
    ∧ (∀ d : Word, d.toNat < 2 ^ s.k →
      enc d = (List.range s.k).foldl (fun c i => if d.getLsbD i then c ^^^ enc (1#32 <<< i) else c) 0)
    ∧ (1 ≤ s.k → enc 1 = g)

/-- R167: EncodeOp depends only on d, n, k, g and GEN_OK, reads no table entry and changes no state but CODE_OUT. -/
def Obligations.EncodeDependsOnlyOnItsOperands : Prop :=
  ∀ s t : State, s.dataIn = t.dataIn → s.aN = t.aN → s.aK = t.aK → s.gAcc = t.gAcc → s.genOk = t.genOk →
    ∃ c, exec .encode s = .next { s with codeOut := c } ∧ exec .encode t = .next { t with codeOut := c }

/-- R68: INIT performed twice gives the state of once, ENCODE performed twice the state of once. -/
def Obligations.CommandsAreIdempotent : Prop :=
  ∀ s : State, (∃ t, exec .init s = .next t ∧ exec .init t = .next t)
    ∧ ∃ t, exec .encode s = .next t ∧ exec .encode t = .next t

/-- R145 and the spec's own inference under R168: an INIT with k = 0 and a valid field gives GEN_OK = 1 and g = x^n +
1; then the only defined data word is 0, and its code word is 0. -/
def Obligations.ZeroDataLengthCode : Prop :=
  ∀ s : State, s.config.wf → s.cfgK = 0 → ∃ t, exec .init s = .next t ∧ (t.fieldOk = true →
    t.genOk = true ∧ t.p = t.n ∧ t.gAcc = some (BitVec.ofNat 32 (2 ^ t.n + 1))
      ∧ ∀ d : Word, exec .encode { t with dataIn := d } =
          .next { t with dataIn := d, codeOut := if d = 0 then some 0 else none })

/-! ## Register access -/

/-- R180, R184, R186, R188, R190, R202: these reads return the register, zero-extended, or 0; they change the response
only. -/
def Obligations.PlainReadsReturnTheRegister : Prop :=
  ∀ (s : State) (o : BitVec 6),
    exec .rdCmd s = .next { s with response := .data 0x00000000#32 }
    ∧ exec .rdCfgN s = .next { s with response := .data (s.cfgN.setWidth 32) }
    ∧ exec .rdCfgK s = .next { s with response := .data (s.cfgK.setWidth 32) }
    ∧ exec .rdCfgPoly s = .next { s with response := .data s.cfgPoly }
    ∧ exec .rdDataIn s = .next { s with response := .data s.dataIn }
    ∧ exec (.rdRsvd o) s = .next { s with response := .data 0x00000000#32 }

/-- R22, R182: the fields of the word a read of STATUS returns, M as R29 gives it, and the reserved bits read 0. -/
def Obligations.StatusReadFields : Prop :=
  ∀ s : State, ∃ v : Word, exec .rdStatus s = .next { s with response := .data v }
    ∧ v.getLsbD 0 = s.fieldOk ∧ v.getLsbD 1 = s.genOk ∧ v.getLsbD 2 = s.initDone ∧ v.getLsbD 3 = s.cmdErr
    ∧ v.extractLsb' 4 4 = 0 ∧ (v.extractLsb' 8 5).toNat = (if s.aPoly = 0 then 0 else deg s.aPoly.toNat)
    ∧ v.extractLsb' 13 3 = 0 ∧ v.extractLsb' 16 5 = s.gdeg ∧ v.extractLsb' 21 11 = 0

/-- R30, R194: a read of TAB_SEL returns IDX in bits 7:0, TSEL in bit 8, and 0 above. -/
def Obligations.TabSelReadFields : Prop :=
  ∀ s : State, ∃ v : Word, exec .rdTabSel s = .next { s with response := .data v }
    ∧ v.extractLsb' 0 8 = s.tabSel.extractLsb' 0 8 ∧ v.getLsbD 8 = s.tabSel.getLsbD 8 ∧ v.extractLsb' 9 23 = 0

/-- R192, R193: CODE_OUT and GEN read as the word they hold, or as the next free value while they hold ⊥. -/
def Obligations.StoredReadsReturnWordOrFreeValue : Prop :=
  ∀ s : State,
    (∀ v, s.codeOut = some v → exec .rdCodeOut s = .next { s with response := .data v })
    ∧ (s.codeOut = none → exec .rdCodeOut s =
        .next { s with response := .data (Config.freeValue s.freeCount), freeCount := s.freeCount + 1 })
    ∧ (∀ g, s.gAcc = some g → exec .rdGen s = .next { s with response := .data g })
    ∧ (s.gAcc = none → exec .rdGen s =
        .next { s with response := .data (Config.freeValue s.freeCount), freeCount := s.freeCount + 1 })

/-- R196: TAB_DATA reads the selected entry; UNCONSTRAINED, the next free value, for an index above N_MAX or A.N and
for an entry that holds ⊥. The tables have N_MAX + 1 entries (TableInv). -/
def Obligations.TabDataReadsTheSelectedEntry : Prop :=
  ∀ s : State, TableInv s →
    let idx := (s.tabSel.extractLsb' 0 8).toNat
    let tab := if s.tabSel.getLsbD 8 = false then s.alphaTo else s.indexOf
    ((2 ^ s.config.mMax - 1 < idx ∨ s.n < idx) → exec .rdTabData s =
        .next { s with response := .data (Config.freeValue s.freeCount), freeCount := s.freeCount + 1 })
    ∧ (¬(2 ^ s.config.mMax - 1 < idx ∨ s.n < idx) →
        (∃ e, tab[idx]? = some e)
        ∧ (tab[idx]? = some (none : Stored) → exec .rdTabData s =
            .next { s with response := .data (Config.freeValue s.freeCount), freeCount := s.freeCount + 1 })
        ∧ ∀ v : Word, tab[idx]? = some (some v) → exec .rdTabData s = .next { s with response := .data v })

/-- R32, R197: PARAM holds M_MAX in bits 3:0 and N_MAX in bits 15:8, every other bit reads 0, and it reads 0x00001F05
with M_MAX = 5; a read changes the response only. -/
def Obligations.ParamReadFields : Prop :=
  ∀ s : State, s.config.wf → ∃ v : Word, exec .rdParam s = .next { s with response := .data v }
    ∧ (v.extractLsb' 0 4).toNat = s.config.mMax ∧ (v.extractLsb' 8 8).toNat = 2 ^ s.config.mMax - 1
    ∧ v.extractLsb' 4 4 = 0 ∧ v.extractLsb' 16 16 = 0 ∧ (s.config.mMax = 5 → v = 0x00001F05#32)

/-- R185, R187, R189, R191, R195: these writes store the word, or its low 8 or 9 bits, in their register and change
nothing else but the response: neither the active configuration nor CODE_OUT. -/
def Obligations.PlainWritesStoreTheWord : Prop :=
  ∀ (s : State) (w : Word),
    exec (.wrCfgN w) s = .next { s with cfgN := w.extractLsb' 0 8, response := .written }
    ∧ exec (.wrCfgK w) s = .next { s with cfgK := w.extractLsb' 0 8, response := .written }
    ∧ exec (.wrCfgPoly w) s = .next { s with cfgPoly := w, response := .written }
    ∧ exec (.wrDataIn w) s = .next { s with dataIn := w, response := .written }
    ∧ exec (.wrTabSel w) s = .next { s with tabSel := w.extractLsb' 0 9, response := .written }

/-- R183: a write of STATUS with bit 3 = 1 clears CMD_ERR; every other bit of the word is ignored. -/
def Obligations.StatusWriteClearsOnlyCmdErr : Prop :=
  ∀ (s : State) (w : Word),
    (w.getLsbD 3 = true → exec (.wrStatus w) s = .next { s with cmdErr := false, response := .written })
    ∧ (w.getLsbD 3 = false → exec (.wrStatus w) s = .next { s with response := .written })

/-- R198, R199, R200, R201, R203: writes of CODE_OUT, GEN, TAB_DATA, PARAM and the reserved offsets are ignored. -/
def Obligations.IgnoredWritesChangeNothing : Prop :=
  ∀ (s : State) (w : Word) (o : BitVec 6),
    exec (.wrCodeOut w) s = .next { s with response := .written }
    ∧ exec (.wrGen w) s = .next { s with response := .written }
    ∧ exec (.wrTabData w) s = .next { s with response := .written }
    ∧ exec (.wrParam w) s = .next { s with response := .written }
    ∧ exec (.wrRsvd o w) s = .next { s with response := .written }

/-- R62, R204: a wrong-size or misaligned access of the window, at any offset and in either direction, decodes to
MISALIGNED first and ends in the bus error with addr − BASE. That the fault also says which of the two conditions holds is
the model's choice (log 6): R211 records nothing. -/
def Obligations.MisalignedAccessIsABusError : Prop :=
  (∀ (we : Bool) (o : BitVec 6) (z : AccessSize) (s : State),
    exec (.misaligned we o z) s = .fault (.busError o (decide (z ≠ .word)) (decide (o.toNat % 4 ≠ 0))))
  ∧ ∀ (s : State) (a : Access) (rest : List HostEvent),
    s.config.wf → s.pending = .access a :: rest → s.inReset = false → s.config.base ≤ a.addr →
    a.addr < s.config.base + 64 → (a.size.bytes ≠ 4 ∨ (a.addr - s.config.base) % 4 ≠ 0) →
    step s = .fault (.busError (BitVec.ofNat 6 (a.addr - s.config.base)) (decide (a.size.bytes ≠ 4))
      (decide ((a.addr - s.config.base) % 4 ≠ 0)))

/-- R67: every read completes and changes no state of the block: only the response and the count of free values. -/
def Obligations.ReadsHaveNoSideEffect : Prop :=
  ∀ (i : Instr) (s : State), isRead i = true →
    ∃ v j, exec i s = .next { s with response := .data v, freeCount := j }

/-- R184 to R195: what a read returns after a write of the same register. -/
def Obligations.WriteThenReadBack : Prop :=
  ∀ (s : State) (w : Word),
    (∃ t u, exec (.wrCfgN w) s = .next t ∧ exec .rdCfgN t = .next u ∧ u.response = .data (w &&& 0x000000FF#32))
    ∧ (∃ t u, exec (.wrCfgK w) s = .next t ∧ exec .rdCfgK t = .next u ∧ u.response = .data (w &&& 0x000000FF#32))
    ∧ (∃ t u, exec (.wrCfgPoly w) s = .next t ∧ exec .rdCfgPoly t = .next u ∧ u.response = .data w)
    ∧ (∃ t u, exec (.wrDataIn w) s = .next t ∧ exec .rdDataIn t = .next u ∧ u.response = .data w)
    ∧ ∃ t u, exec (.wrTabSel w) s = .next t ∧ exec .rdTabSel t = .next u ∧ u.response = .data (w &&& 0x000001FF#32)

/-! ## The whole machine -/

/-- R22, R29, R33, R34, R35: the active configuration, the tables, g_acc, FIELD_OK, GEN_OK, INIT_DONE and GDEG change
only at INIT and at reset. -/
def Obligations.BuiltStateChangesOnlyAtInitAndReset : Prop :=
  ∀ s t : State, s.config.base % 64 = 0 → step s = .next t →
    s.nextIsWrite 0x00#6 0x00000001#32 ∨ s.nextIsReset ∨
      (t.aN = s.aN ∧ t.aK = s.aK ∧ t.aPoly = s.aPoly ∧ t.alphaTo = s.alphaTo ∧ t.indexOf = s.indexOf ∧ t.gAcc = s.gAcc
        ∧ t.fieldOk = s.fieldOk ∧ t.genOk = s.genOk ∧ t.initDone = s.initDone ∧ t.gdeg = s.gdeg)

/-- R235, R236: CODE_OUT changes only at ENCODE, INIT and reset. -/
def Obligations.CodeOutChangesOnlyAtCommandsAndReset : Prop :=
  ∀ s t : State, s.config.base % 64 = 0 → step s = .next t →
    s.nextIsWrite 0x00#6 0x00000001#32 ∨ s.nextIsWrite 0x00#6 0x00000002#32 ∨ s.nextIsReset ∨ t.codeOut = s.codeOut

/-- R22, R105, R183: CMD_ERR changes only at an illegal command word, which sets it, at a write of STATUS with bit 3 =
1, which clears it, and at reset. -/
def Obligations.CmdErrChangesOnlyAsStated : Prop :=
  ∀ s t : State, s.config.base % 64 = 0 → step s = .next t →
    (∃ w : Word, s.nextIsWrite 0x00#6 w ∧ 2 < w.toNat ∧ t.cmdErr = true)
      ∨ (∃ w : Word, s.nextIsWrite 0x04#6 w ∧ w.getLsbD 3 = true ∧ t.cmdErr = false)
      ∨ s.nextIsReset ∨ t.cmdErr = s.cmdErr

/-- R23 to R26, R30: a staging register, DATA_IN or TAB_SEL changes only at a write of it and at reset. -/
def Obligations.RegistersChangeOnlyAtTheirWrite : Prop :=
  ∀ s t : State, s.config.base % 64 = 0 → step s = .next t →
    s.nextIsReset ∨
      ((t.cfgN = s.cfgN ∨ ∃ w, s.nextIsWrite 0x08#6 w ∧ t.cfgN = w.extractLsb' 0 8)
        ∧ (t.cfgK = s.cfgK ∨ ∃ w, s.nextIsWrite 0x0C#6 w ∧ t.cfgK = w.extractLsb' 0 8)
        ∧ (t.cfgPoly = s.cfgPoly ∨ ∃ w, s.nextIsWrite 0x10#6 w ∧ t.cfgPoly = w)
        ∧ (t.dataIn = s.dataIn ∨ ∃ w, s.nextIsWrite 0x14#6 w ∧ t.dataIn = w)
        ∧ (t.tabSel = s.tabSel ∨ ∃ w, s.nextIsWrite 0x20#6 w ∧ t.tabSel = w.extractLsb' 0 9))

/-- R29, R234: whatever is staged, every instruction but INIT, the CMD write of its word and the accesses of CFG_N, CFG_K
and CFG_POLY themselves answers the same and leaves the staged values as they are. -/
def Obligations.StagedConfigurationHasNoEffectBeforeInit : Prop :=
  ∀ (i : Instr) (s t : State) (n k : BitVec 8) (poly : Word),
    i ≠ .init → i ≠ .wrCmd 0x00000001#32 → i ≠ .rdCfgN → i ≠ .rdCfgK → i ≠ .rdCfgPoly →
    (∀ w, i ≠ .wrCfgN w ∧ i ≠ .wrCfgK w ∧ i ≠ .wrCfgPoly w) → exec i s = .next t →
    exec i { s with cfgN := n, cfgK := k, cfgPoly := poly } = .next { t with cfgN := n, cfgK := k, cfgPoly := poly }

/-! ## Invariants -/

/-- The reset state meets the invariants. -/
def Obligations.ResetMeetsTheInvariants : Prop :=
  TableInv State.reset ∧ GenInv State.reset ∧ CodeInv State.reset

/-- Every step from a state that meets TableInv leads to one: legal parameters, full tables, a valid field behind
every FIELD_OK = 1. -/
def Obligations.StepKeepsTableInv : Prop :=
  ∀ s t : State, TableInv s → step s = .next t → TableInv t

/-- Every step from a state that meets TableInv and GenInv leads to one that meets GenInv: a generator of degree n − k
with leading and constant coefficients 1 behind every GEN_OK = 1. -/
def Obligations.StepKeepsGenInv : Prop :=
  ∀ s t : State, TableInv s → GenInv s → step s = .next t → GenInv t

/-- Every step keeps CODE_OUT a code word: ⊥, or below 2^n and divisible by the generator. -/
def Obligations.StepKeepsCodeInv : Prop :=
  ∀ s t : State, TableInv s → GenInv s → CodeInv s → step s = .next t → CodeInv t

/-! ## Pseudo-instructions -/

/-- R88: the three accesses of ENCODEW d complete in three steps, and the value read is the code word of d. -/
def Obligations.EncodewReadsTheCodeWord : Prop :=
  ∀ (s : State) (g d : Word) (rest : List HostEvent),
    s.config.wf → GenReady s g → d.toNat < 2 ^ s.k → s.inReset = false → s.pending = encodewLines s.config d ++ rest →
    ∃ t, Sys2Proof.core.run 3 s = .next t ∧ t.pending = rest
      ∧ t.response = .data (BitVec.ofNat 32 ((d.toNat <<< s.p) ^^^ pmod (d.toNat <<< s.p) g.toNat))
end

