-- ==== Sys2Proof/Laws/Decode.lean ====
section
/-! SUPPORT. Laws/Decode.lean: the fields of a descriptor (30_encoding.md R85) and of an access's code. -/

namespace Sys2Proof

/-- A descriptor holds the offset it was made of. -/
@[simp] theorem descOffset_descriptor : ∀ (we : Bool) (offset : BitVec 6), descOffset (descriptor we offset) = offset := by
  decide

/-- A descriptor holds the direction it was made of. -/
@[simp] theorem descWrite_descriptor : ∀ (we : Bool) (offset : BitVec 6), descWrite (descriptor we offset) = we := by
  decide

/-- Bits [7:6] of a descriptor are 0. -/
theorem descriptor_bits_7_6 : ∀ (we : Bool) (offset : BitVec 6), (descriptor we offset).extractLsb' 6 2 = 0 := by
  decide

/-- A command word below 16 is its OP (30_encoding.md R80). -/
theorem cmdRsvd_eq_zero_iff (w : Word) : cmdRsvd w = 0#28 ↔ w.toNat < 16 := by
  constructor
  · intro h
    have h1 : w.toNat >>> 4 % 2 ^ 28 = 0 := by simpa [cmdRsvd, BitVec.extractLsb'_toNat] using congrArg BitVec.toNat h
    have h2 := w.isLt
    rw [Nat.shiftRight_eq_div_pow] at h1
    omega
  · intro h
    apply BitVec.eq_of_toNat_eq
    simp [cmdRsvd, BitVec.extractLsb'_toNat, Nat.shiftRight_eq_div_pow]
    omega

/-- The five kinds of command word, "NOP, INIT, ENCODE or illegal" (R84). -/
theorem decodeCommand_cases (w : Word) :
    (cmdRsvd w ≠ 0#28 ∧ decodeCommand w = .illegalRsvd w)
    ∨ (w = 0x00000000#32 ∧ decodeCommand w = .nop)
    ∨ (w = 0x00000001#32 ∧ decodeCommand w = .init)
    ∨ (w = 0x00000002#32 ∧ decodeCommand w = .encode)
    ∨ (w.toNat < 16 ∧ 3 ≤ (cmdOp w).toNat ∧ w = (cmdOp w).setWidth 32 ∧ decodeCommand w = .illegalOp (cmdOp w)) := by
  by_cases h : cmdRsvd w = 0#28
  · have hlt := (cmdRsvd_eq_zero_iff w).1 h
    obtain ⟨n, hn, rfl⟩ : ∃ n : Nat, n < 16 ∧ w = BitVec.ofNat 32 n := ⟨w.toNat, hlt, by simp⟩
    clear h hlt
    revert n
    decide
  · exact .inl ⟨h, by simp [decodeCommand, h]⟩

namespace Machine

/-- A descriptor's access is in the window when BASE is there to be added. -/
theorem accessOfDescriptor_inWindow (c : Config) (desc : BitVec 9) (data : Word) :
    (accessOfDescriptor c desc data).inWindow c = true := by
  have := (descOffset desc).isLt
  simp [Access.inWindow, accessOfDescriptor]
  omega

/-- The block sees the offset of an access at BASE + offset, BASE being a multiple of 64 (R60). -/
theorem offset_of_base_add {c : Config} (hb : c.base % 64 = 0) (o : BitVec 6) (z : AccessSize) (we : Bool) (w : Word) :
    Access.offset ⟨c.base + o.toNat, z, we, w⟩ = o := by
  apply BitVec.eq_of_toNat_eq
  have := o.isLt
  simp [Access.offset]
  omega

end Machine

end Sys2Proof
end

