-- ==== Sys2Proof/Laws/Poly.lean ====
section
/-! SUPPORT. Laws/Poly.lean: the laws of degree, carry-less product and long division of Machine/Poly.lean. -/

namespace Sys2Proof.Machine

open Sys2Proof

/-! ## Degree -/

theorem lt_two_pow_deg_succ (a : Nat) : a < 2 ^ (deg a + 1) := Nat.lt_log2_self

theorem testBit_deg {a : Nat} (h : a ≠ 0) : a.testBit (deg a) = true := by
  have hlo : 2 ^ deg a ≤ a := Nat.log2_self_le h
  have hhi := lt_two_pow_deg_succ a
  have hq : a / 2 ^ deg a = 1 := by
    apply Nat.div_eq_of_lt_le <;> rw [Nat.pow_succ] at hhi <;> omega
  simp [Nat.testBit_eq_decide_div_mod_eq, hq]

/-- No bit above the degree is set. -/
theorem testBit_above_deg {a i : Nat} (h : deg a < i) : a.testBit i = false :=
  Nat.testBit_lt_two_pow (Nat.lt_of_lt_of_le (lt_two_pow_deg_succ a) (Nat.pow_le_pow_right (by decide) h))

/-- A mask below 2^(i+1) with bit i set has degree i. -/
theorem deg_eq_of_testBit {a i : Nat} (hbit : a.testBit i = true) (hlt : a < 2 ^ (i + 1)) : deg a = i := by
  have h0 : a ≠ 0 := by rintro rfl; simp at hbit
  have hge : 2 ^ i ≤ a := Nat.ge_two_pow_of_testBit hbit
  exact (Nat.log2_eq_iff h0).2 ⟨hge, hlt⟩

/-! ## Carry-less product -/

/-- Bits of b at and above `deg b + 1` are 0, so more turns change nothing. -/
theorem clmulBits_eq_of_le (a b : Nat) : ∀ n, deg b + 1 ≤ n → clmulBits a b n = clmul a b := by
  intro n hn
  induction n, hn using Nat.le_induction with
  | base => rfl
  | succ n hn ih => simp [clmulBits, testBit_above_deg (Nat.lt_of_succ_le hn), ih]

@[simp] theorem clmulBits_zero_left (b n : Nat) : clmulBits 0 b n = 0 := by
  induction n with
  | zero => rfl
  | succ n ih => simp [clmulBits, ih]

/-! ## Long division -/

theorem pmodStep_of_bit_clear {g i a : Nat} (h : a.testBit i = false) : pmodStep g i a = a := by
  simp [pmodStep, h]

/-- One step of long division is linear. -/
theorem pmodStep_xor (g i a b : Nat) : pmodStep g i (a ^^^ b) = pmodStep g i a ^^^ pmodStep g i b := by
  unfold pmodStep
  rw [Nat.testBit_xor]
  cases ha : a.testBit i <;> cases hb : b.testBit i <;> simp
  · exact (Nat.xor_assoc _ _ _)
  · rw [Nat.xor_right_comm]
  · rw [Nat.xor_assoc, ← Nat.xor_assoc (g <<< _), Nat.xor_comm (g <<< _) b, Nat.xor_assoc b, Nat.xor_self, Nat.xor_zero]

/-- Long division is linear. -/
theorem pmodFrom_xor (g : Nat) : ∀ n a b, pmodFrom g n (a ^^^ b) = pmodFrom g n a ^^^ pmodFrom g n b
  | 0, _, _ => rfl
  | n + 1, a, b => by simp [pmodFrom, pmodStep_xor, pmodFrom_xor g n]

/-- A mask of degree below that of g is its own remainder. -/
theorem pmodFrom_of_lt (g : Nat) : ∀ n a, a < 2 ^ deg g → pmodFrom g n a = a
  | 0, _, _ => rfl
  | n + 1, a, h => by
    have hbit : a.testBit (deg g + n) = false :=
      Nat.testBit_lt_two_pow (Nat.lt_of_lt_of_le h (Nat.pow_le_pow_right (by decide) (Nat.le_add_right _ _)))
    simp [pmodFrom, pmodStep_of_bit_clear hbit, pmodFrom_of_lt g n a h]

/-- The division may start at any bit at or above the top bit of a. -/
theorem pmodFrom_eq_pmod (g a : Nat) : ∀ n, deg a + 1 - deg g ≤ n → pmodFrom g n a = pmod a g := by
  intro n hn
  induction n, hn using Nat.le_induction with
  | base => rfl
  | succ n hn ih =>
    have hbit : a.testBit (deg g + n) = false := testBit_above_deg (by omega)
    simp [pmodFrom, pmodStep_of_bit_clear hbit, ih]

end Sys2Proof.Machine
end

