-- ==== Sys2Proof/Laws/State.lean ====
section
/-! SUPPORT. Laws/State.lean: every field of every named update of Machine/Ops.lean, by rfl, so that no later proof
unfolds a record update. -/

namespace Sys2Proof.Machine

open Sys2Proof

section fields

variable (s : State)

@[simp] theorem State.respond_config (r : Response) : (s.respond r).config = s.config := rfl
@[simp] theorem State.respond_cfgN (r : Response) : (s.respond r).cfgN = s.cfgN := rfl
@[simp] theorem State.respond_cfgK (r : Response) : (s.respond r).cfgK = s.cfgK := rfl
@[simp] theorem State.respond_cfgPoly (r : Response) : (s.respond r).cfgPoly = s.cfgPoly := rfl
@[simp] theorem State.respond_dataIn (r : Response) : (s.respond r).dataIn = s.dataIn := rfl
@[simp] theorem State.respond_codeOut (r : Response) : (s.respond r).codeOut = s.codeOut := rfl
@[simp] theorem State.respond_tabSel (r : Response) : (s.respond r).tabSel = s.tabSel := rfl
@[simp] theorem State.respond_aN (r : Response) : (s.respond r).aN = s.aN := rfl
@[simp] theorem State.respond_aK (r : Response) : (s.respond r).aK = s.aK := rfl
@[simp] theorem State.respond_aPoly (r : Response) : (s.respond r).aPoly = s.aPoly := rfl
@[simp] theorem State.respond_alphaTo (r : Response) : (s.respond r).alphaTo = s.alphaTo := rfl
@[simp] theorem State.respond_indexOf (r : Response) : (s.respond r).indexOf = s.indexOf := rfl
@[simp] theorem State.respond_gAcc (r : Response) : (s.respond r).gAcc = s.gAcc := rfl
@[simp] theorem State.respond_fieldOk (r : Response) : (s.respond r).fieldOk = s.fieldOk := rfl
@[simp] theorem State.respond_genOk (r : Response) : (s.respond r).genOk = s.genOk := rfl
@[simp] theorem State.respond_initDone (r : Response) : (s.respond r).initDone = s.initDone := rfl
@[simp] theorem State.respond_cmdErr (r : Response) : (s.respond r).cmdErr = s.cmdErr := rfl
@[simp] theorem State.respond_gdeg (r : Response) : (s.respond r).gdeg = s.gdeg := rfl
@[simp] theorem State.respond_inReset (r : Response) : (s.respond r).inReset = s.inReset := rfl
@[simp] theorem State.respond_pending (r : Response) : (s.respond r).pending = s.pending := rfl
@[simp] theorem State.respond_response (r : Response) : (s.respond r).response = r := rfl
@[simp] theorem State.respond_freeCount (r : Response) : (s.respond r).freeCount = s.freeCount := rfl

@[simp] theorem State.drawn_config : (s.drawn).config = s.config := rfl
@[simp] theorem State.drawn_cfgN : (s.drawn).cfgN = s.cfgN := rfl
@[simp] theorem State.drawn_cfgK : (s.drawn).cfgK = s.cfgK := rfl
@[simp] theorem State.drawn_cfgPoly : (s.drawn).cfgPoly = s.cfgPoly := rfl
@[simp] theorem State.drawn_dataIn : (s.drawn).dataIn = s.dataIn := rfl
@[simp] theorem State.drawn_codeOut : (s.drawn).codeOut = s.codeOut := rfl
@[simp] theorem State.drawn_tabSel : (s.drawn).tabSel = s.tabSel := rfl
@[simp] theorem State.drawn_aN : (s.drawn).aN = s.aN := rfl
@[simp] theorem State.drawn_aK : (s.drawn).aK = s.aK := rfl
@[simp] theorem State.drawn_aPoly : (s.drawn).aPoly = s.aPoly := rfl
@[simp] theorem State.drawn_alphaTo : (s.drawn).alphaTo = s.alphaTo := rfl
@[simp] theorem State.drawn_indexOf : (s.drawn).indexOf = s.indexOf := rfl
@[simp] theorem State.drawn_gAcc : (s.drawn).gAcc = s.gAcc := rfl
@[simp] theorem State.drawn_fieldOk : (s.drawn).fieldOk = s.fieldOk := rfl
@[simp] theorem State.drawn_genOk : (s.drawn).genOk = s.genOk := rfl
@[simp] theorem State.drawn_initDone : (s.drawn).initDone = s.initDone := rfl
@[simp] theorem State.drawn_cmdErr : (s.drawn).cmdErr = s.cmdErr := rfl
@[simp] theorem State.drawn_gdeg : (s.drawn).gdeg = s.gdeg := rfl
@[simp] theorem State.drawn_inReset : (s.drawn).inReset = s.inReset := rfl
@[simp] theorem State.drawn_pending : (s.drawn).pending = s.pending := rfl
@[simp] theorem State.drawn_response : (s.drawn).response = s.response := rfl
@[simp] theorem State.drawn_freeCount : (s.drawn).freeCount = s.freeCount + 1 := rfl

@[simp] theorem State.setPending_config (q : List HostEvent) : (s.setPending q).config = s.config := rfl
@[simp] theorem State.setPending_cfgN (q : List HostEvent) : (s.setPending q).cfgN = s.cfgN := rfl
@[simp] theorem State.setPending_cfgK (q : List HostEvent) : (s.setPending q).cfgK = s.cfgK := rfl
@[simp] theorem State.setPending_cfgPoly (q : List HostEvent) : (s.setPending q).cfgPoly = s.cfgPoly := rfl
@[simp] theorem State.setPending_dataIn (q : List HostEvent) : (s.setPending q).dataIn = s.dataIn := rfl
@[simp] theorem State.setPending_codeOut (q : List HostEvent) : (s.setPending q).codeOut = s.codeOut := rfl
@[simp] theorem State.setPending_tabSel (q : List HostEvent) : (s.setPending q).tabSel = s.tabSel := rfl
@[simp] theorem State.setPending_aN (q : List HostEvent) : (s.setPending q).aN = s.aN := rfl
@[simp] theorem State.setPending_aK (q : List HostEvent) : (s.setPending q).aK = s.aK := rfl
@[simp] theorem State.setPending_aPoly (q : List HostEvent) : (s.setPending q).aPoly = s.aPoly := rfl
@[simp] theorem State.setPending_alphaTo (q : List HostEvent) : (s.setPending q).alphaTo = s.alphaTo := rfl
@[simp] theorem State.setPending_indexOf (q : List HostEvent) : (s.setPending q).indexOf = s.indexOf := rfl
@[simp] theorem State.setPending_gAcc (q : List HostEvent) : (s.setPending q).gAcc = s.gAcc := rfl
@[simp] theorem State.setPending_fieldOk (q : List HostEvent) : (s.setPending q).fieldOk = s.fieldOk := rfl
@[simp] theorem State.setPending_genOk (q : List HostEvent) : (s.setPending q).genOk = s.genOk := rfl
@[simp] theorem State.setPending_initDone (q : List HostEvent) : (s.setPending q).initDone = s.initDone := rfl
@[simp] theorem State.setPending_cmdErr (q : List HostEvent) : (s.setPending q).cmdErr = s.cmdErr := rfl
@[simp] theorem State.setPending_gdeg (q : List HostEvent) : (s.setPending q).gdeg = s.gdeg := rfl
@[simp] theorem State.setPending_inReset (q : List HostEvent) : (s.setPending q).inReset = s.inReset := rfl
@[simp] theorem State.setPending_pending (q : List HostEvent) : (s.setPending q).pending = q := rfl
@[simp] theorem State.setPending_response (q : List HostEvent) : (s.setPending q).response = s.response := rfl
@[simp] theorem State.setPending_freeCount (q : List HostEvent) : (s.setPending q).freeCount = s.freeCount := rfl

@[simp] theorem State.setInReset_config (b : Bool) : (s.setInReset b).config = s.config := rfl
@[simp] theorem State.setInReset_cfgN (b : Bool) : (s.setInReset b).cfgN = s.cfgN := rfl
@[simp] theorem State.setInReset_cfgK (b : Bool) : (s.setInReset b).cfgK = s.cfgK := rfl
@[simp] theorem State.setInReset_cfgPoly (b : Bool) : (s.setInReset b).cfgPoly = s.cfgPoly := rfl
@[simp] theorem State.setInReset_dataIn (b : Bool) : (s.setInReset b).dataIn = s.dataIn := rfl
@[simp] theorem State.setInReset_codeOut (b : Bool) : (s.setInReset b).codeOut = s.codeOut := rfl
@[simp] theorem State.setInReset_tabSel (b : Bool) : (s.setInReset b).tabSel = s.tabSel := rfl
@[simp] theorem State.setInReset_aN (b : Bool) : (s.setInReset b).aN = s.aN := rfl
@[simp] theorem State.setInReset_aK (b : Bool) : (s.setInReset b).aK = s.aK := rfl
@[simp] theorem State.setInReset_aPoly (b : Bool) : (s.setInReset b).aPoly = s.aPoly := rfl
@[simp] theorem State.setInReset_alphaTo (b : Bool) : (s.setInReset b).alphaTo = s.alphaTo := rfl
@[simp] theorem State.setInReset_indexOf (b : Bool) : (s.setInReset b).indexOf = s.indexOf := rfl
@[simp] theorem State.setInReset_gAcc (b : Bool) : (s.setInReset b).gAcc = s.gAcc := rfl
@[simp] theorem State.setInReset_fieldOk (b : Bool) : (s.setInReset b).fieldOk = s.fieldOk := rfl
@[simp] theorem State.setInReset_genOk (b : Bool) : (s.setInReset b).genOk = s.genOk := rfl
@[simp] theorem State.setInReset_initDone (b : Bool) : (s.setInReset b).initDone = s.initDone := rfl
@[simp] theorem State.setInReset_cmdErr (b : Bool) : (s.setInReset b).cmdErr = s.cmdErr := rfl
@[simp] theorem State.setInReset_gdeg (b : Bool) : (s.setInReset b).gdeg = s.gdeg := rfl
@[simp] theorem State.setInReset_inReset (b : Bool) : (s.setInReset b).inReset = b := rfl
@[simp] theorem State.setInReset_pending (b : Bool) : (s.setInReset b).pending = s.pending := rfl
@[simp] theorem State.setInReset_response (b : Bool) : (s.setInReset b).response = s.response := rfl
@[simp] theorem State.setInReset_freeCount (b : Bool) : (s.setInReset b).freeCount = s.freeCount := rfl

@[simp] theorem State.setCfgN_config (v : BitVec 8) : (s.setCfgN v).config = s.config := rfl
@[simp] theorem State.setCfgN_cfgN (v : BitVec 8) : (s.setCfgN v).cfgN = v := rfl
@[simp] theorem State.setCfgN_cfgK (v : BitVec 8) : (s.setCfgN v).cfgK = s.cfgK := rfl
@[simp] theorem State.setCfgN_cfgPoly (v : BitVec 8) : (s.setCfgN v).cfgPoly = s.cfgPoly := rfl
@[simp] theorem State.setCfgN_dataIn (v : BitVec 8) : (s.setCfgN v).dataIn = s.dataIn := rfl
@[simp] theorem State.setCfgN_codeOut (v : BitVec 8) : (s.setCfgN v).codeOut = s.codeOut := rfl
@[simp] theorem State.setCfgN_tabSel (v : BitVec 8) : (s.setCfgN v).tabSel = s.tabSel := rfl
@[simp] theorem State.setCfgN_aN (v : BitVec 8) : (s.setCfgN v).aN = s.aN := rfl
@[simp] theorem State.setCfgN_aK (v : BitVec 8) : (s.setCfgN v).aK = s.aK := rfl
@[simp] theorem State.setCfgN_aPoly (v : BitVec 8) : (s.setCfgN v).aPoly = s.aPoly := rfl
@[simp] theorem State.setCfgN_alphaTo (v : BitVec 8) : (s.setCfgN v).alphaTo = s.alphaTo := rfl
@[simp] theorem State.setCfgN_indexOf (v : BitVec 8) : (s.setCfgN v).indexOf = s.indexOf := rfl
@[simp] theorem State.setCfgN_gAcc (v : BitVec 8) : (s.setCfgN v).gAcc = s.gAcc := rfl
@[simp] theorem State.setCfgN_fieldOk (v : BitVec 8) : (s.setCfgN v).fieldOk = s.fieldOk := rfl
@[simp] theorem State.setCfgN_genOk (v : BitVec 8) : (s.setCfgN v).genOk = s.genOk := rfl
@[simp] theorem State.setCfgN_initDone (v : BitVec 8) : (s.setCfgN v).initDone = s.initDone := rfl
@[simp] theorem State.setCfgN_cmdErr (v : BitVec 8) : (s.setCfgN v).cmdErr = s.cmdErr := rfl
@[simp] theorem State.setCfgN_gdeg (v : BitVec 8) : (s.setCfgN v).gdeg = s.gdeg := rfl
@[simp] theorem State.setCfgN_inReset (v : BitVec 8) : (s.setCfgN v).inReset = s.inReset := rfl
@[simp] theorem State.setCfgN_pending (v : BitVec 8) : (s.setCfgN v).pending = s.pending := rfl
@[simp] theorem State.setCfgN_response (v : BitVec 8) : (s.setCfgN v).response = s.response := rfl
@[simp] theorem State.setCfgN_freeCount (v : BitVec 8) : (s.setCfgN v).freeCount = s.freeCount := rfl

@[simp] theorem State.setCfgK_config (v : BitVec 8) : (s.setCfgK v).config = s.config := rfl
@[simp] theorem State.setCfgK_cfgN (v : BitVec 8) : (s.setCfgK v).cfgN = s.cfgN := rfl
@[simp] theorem State.setCfgK_cfgK (v : BitVec 8) : (s.setCfgK v).cfgK = v := rfl
@[simp] theorem State.setCfgK_cfgPoly (v : BitVec 8) : (s.setCfgK v).cfgPoly = s.cfgPoly := rfl
@[simp] theorem State.setCfgK_dataIn (v : BitVec 8) : (s.setCfgK v).dataIn = s.dataIn := rfl
@[simp] theorem State.setCfgK_codeOut (v : BitVec 8) : (s.setCfgK v).codeOut = s.codeOut := rfl
@[simp] theorem State.setCfgK_tabSel (v : BitVec 8) : (s.setCfgK v).tabSel = s.tabSel := rfl
@[simp] theorem State.setCfgK_aN (v : BitVec 8) : (s.setCfgK v).aN = s.aN := rfl
@[simp] theorem State.setCfgK_aK (v : BitVec 8) : (s.setCfgK v).aK = s.aK := rfl
@[simp] theorem State.setCfgK_aPoly (v : BitVec 8) : (s.setCfgK v).aPoly = s.aPoly := rfl
@[simp] theorem State.setCfgK_alphaTo (v : BitVec 8) : (s.setCfgK v).alphaTo = s.alphaTo := rfl
@[simp] theorem State.setCfgK_indexOf (v : BitVec 8) : (s.setCfgK v).indexOf = s.indexOf := rfl
@[simp] theorem State.setCfgK_gAcc (v : BitVec 8) : (s.setCfgK v).gAcc = s.gAcc := rfl
@[simp] theorem State.setCfgK_fieldOk (v : BitVec 8) : (s.setCfgK v).fieldOk = s.fieldOk := rfl
@[simp] theorem State.setCfgK_genOk (v : BitVec 8) : (s.setCfgK v).genOk = s.genOk := rfl
@[simp] theorem State.setCfgK_initDone (v : BitVec 8) : (s.setCfgK v).initDone = s.initDone := rfl
@[simp] theorem State.setCfgK_cmdErr (v : BitVec 8) : (s.setCfgK v).cmdErr = s.cmdErr := rfl
@[simp] theorem State.setCfgK_gdeg (v : BitVec 8) : (s.setCfgK v).gdeg = s.gdeg := rfl
@[simp] theorem State.setCfgK_inReset (v : BitVec 8) : (s.setCfgK v).inReset = s.inReset := rfl
@[simp] theorem State.setCfgK_pending (v : BitVec 8) : (s.setCfgK v).pending = s.pending := rfl
@[simp] theorem State.setCfgK_response (v : BitVec 8) : (s.setCfgK v).response = s.response := rfl
@[simp] theorem State.setCfgK_freeCount (v : BitVec 8) : (s.setCfgK v).freeCount = s.freeCount := rfl

@[simp] theorem State.setCfgPoly_config (v : Word) : (s.setCfgPoly v).config = s.config := rfl
@[simp] theorem State.setCfgPoly_cfgN (v : Word) : (s.setCfgPoly v).cfgN = s.cfgN := rfl
@[simp] theorem State.setCfgPoly_cfgK (v : Word) : (s.setCfgPoly v).cfgK = s.cfgK := rfl
@[simp] theorem State.setCfgPoly_cfgPoly (v : Word) : (s.setCfgPoly v).cfgPoly = v := rfl
@[simp] theorem State.setCfgPoly_dataIn (v : Word) : (s.setCfgPoly v).dataIn = s.dataIn := rfl
@[simp] theorem State.setCfgPoly_codeOut (v : Word) : (s.setCfgPoly v).codeOut = s.codeOut := rfl
@[simp] theorem State.setCfgPoly_tabSel (v : Word) : (s.setCfgPoly v).tabSel = s.tabSel := rfl
@[simp] theorem State.setCfgPoly_aN (v : Word) : (s.setCfgPoly v).aN = s.aN := rfl
@[simp] theorem State.setCfgPoly_aK (v : Word) : (s.setCfgPoly v).aK = s.aK := rfl
@[simp] theorem State.setCfgPoly_aPoly (v : Word) : (s.setCfgPoly v).aPoly = s.aPoly := rfl
@[simp] theorem State.setCfgPoly_alphaTo (v : Word) : (s.setCfgPoly v).alphaTo = s.alphaTo := rfl
@[simp] theorem State.setCfgPoly_indexOf (v : Word) : (s.setCfgPoly v).indexOf = s.indexOf := rfl
@[simp] theorem State.setCfgPoly_gAcc (v : Word) : (s.setCfgPoly v).gAcc = s.gAcc := rfl
@[simp] theorem State.setCfgPoly_fieldOk (v : Word) : (s.setCfgPoly v).fieldOk = s.fieldOk := rfl
@[simp] theorem State.setCfgPoly_genOk (v : Word) : (s.setCfgPoly v).genOk = s.genOk := rfl
@[simp] theorem State.setCfgPoly_initDone (v : Word) : (s.setCfgPoly v).initDone = s.initDone := rfl
@[simp] theorem State.setCfgPoly_cmdErr (v : Word) : (s.setCfgPoly v).cmdErr = s.cmdErr := rfl
@[simp] theorem State.setCfgPoly_gdeg (v : Word) : (s.setCfgPoly v).gdeg = s.gdeg := rfl
@[simp] theorem State.setCfgPoly_inReset (v : Word) : (s.setCfgPoly v).inReset = s.inReset := rfl
@[simp] theorem State.setCfgPoly_pending (v : Word) : (s.setCfgPoly v).pending = s.pending := rfl
@[simp] theorem State.setCfgPoly_response (v : Word) : (s.setCfgPoly v).response = s.response := rfl
@[simp] theorem State.setCfgPoly_freeCount (v : Word) : (s.setCfgPoly v).freeCount = s.freeCount := rfl

@[simp] theorem State.setDataIn_config (v : Word) : (s.setDataIn v).config = s.config := rfl
@[simp] theorem State.setDataIn_cfgN (v : Word) : (s.setDataIn v).cfgN = s.cfgN := rfl
@[simp] theorem State.setDataIn_cfgK (v : Word) : (s.setDataIn v).cfgK = s.cfgK := rfl
@[simp] theorem State.setDataIn_cfgPoly (v : Word) : (s.setDataIn v).cfgPoly = s.cfgPoly := rfl
@[simp] theorem State.setDataIn_dataIn (v : Word) : (s.setDataIn v).dataIn = v := rfl
@[simp] theorem State.setDataIn_codeOut (v : Word) : (s.setDataIn v).codeOut = s.codeOut := rfl
@[simp] theorem State.setDataIn_tabSel (v : Word) : (s.setDataIn v).tabSel = s.tabSel := rfl
@[simp] theorem State.setDataIn_aN (v : Word) : (s.setDataIn v).aN = s.aN := rfl
@[simp] theorem State.setDataIn_aK (v : Word) : (s.setDataIn v).aK = s.aK := rfl
@[simp] theorem State.setDataIn_aPoly (v : Word) : (s.setDataIn v).aPoly = s.aPoly := rfl
@[simp] theorem State.setDataIn_alphaTo (v : Word) : (s.setDataIn v).alphaTo = s.alphaTo := rfl
@[simp] theorem State.setDataIn_indexOf (v : Word) : (s.setDataIn v).indexOf = s.indexOf := rfl
@[simp] theorem State.setDataIn_gAcc (v : Word) : (s.setDataIn v).gAcc = s.gAcc := rfl
@[simp] theorem State.setDataIn_fieldOk (v : Word) : (s.setDataIn v).fieldOk = s.fieldOk := rfl
@[simp] theorem State.setDataIn_genOk (v : Word) : (s.setDataIn v).genOk = s.genOk := rfl
@[simp] theorem State.setDataIn_initDone (v : Word) : (s.setDataIn v).initDone = s.initDone := rfl
@[simp] theorem State.setDataIn_cmdErr (v : Word) : (s.setDataIn v).cmdErr = s.cmdErr := rfl
@[simp] theorem State.setDataIn_gdeg (v : Word) : (s.setDataIn v).gdeg = s.gdeg := rfl
@[simp] theorem State.setDataIn_inReset (v : Word) : (s.setDataIn v).inReset = s.inReset := rfl
@[simp] theorem State.setDataIn_pending (v : Word) : (s.setDataIn v).pending = s.pending := rfl
@[simp] theorem State.setDataIn_response (v : Word) : (s.setDataIn v).response = s.response := rfl
@[simp] theorem State.setDataIn_freeCount (v : Word) : (s.setDataIn v).freeCount = s.freeCount := rfl

@[simp] theorem State.setTabSel_config (v : BitVec 9) : (s.setTabSel v).config = s.config := rfl
@[simp] theorem State.setTabSel_cfgN (v : BitVec 9) : (s.setTabSel v).cfgN = s.cfgN := rfl
@[simp] theorem State.setTabSel_cfgK (v : BitVec 9) : (s.setTabSel v).cfgK = s.cfgK := rfl
@[simp] theorem State.setTabSel_cfgPoly (v : BitVec 9) : (s.setTabSel v).cfgPoly = s.cfgPoly := rfl
@[simp] theorem State.setTabSel_dataIn (v : BitVec 9) : (s.setTabSel v).dataIn = s.dataIn := rfl
@[simp] theorem State.setTabSel_codeOut (v : BitVec 9) : (s.setTabSel v).codeOut = s.codeOut := rfl
@[simp] theorem State.setTabSel_tabSel (v : BitVec 9) : (s.setTabSel v).tabSel = v := rfl
@[simp] theorem State.setTabSel_aN (v : BitVec 9) : (s.setTabSel v).aN = s.aN := rfl
@[simp] theorem State.setTabSel_aK (v : BitVec 9) : (s.setTabSel v).aK = s.aK := rfl
@[simp] theorem State.setTabSel_aPoly (v : BitVec 9) : (s.setTabSel v).aPoly = s.aPoly := rfl
@[simp] theorem State.setTabSel_alphaTo (v : BitVec 9) : (s.setTabSel v).alphaTo = s.alphaTo := rfl
@[simp] theorem State.setTabSel_indexOf (v : BitVec 9) : (s.setTabSel v).indexOf = s.indexOf := rfl
@[simp] theorem State.setTabSel_gAcc (v : BitVec 9) : (s.setTabSel v).gAcc = s.gAcc := rfl
@[simp] theorem State.setTabSel_fieldOk (v : BitVec 9) : (s.setTabSel v).fieldOk = s.fieldOk := rfl
@[simp] theorem State.setTabSel_genOk (v : BitVec 9) : (s.setTabSel v).genOk = s.genOk := rfl
@[simp] theorem State.setTabSel_initDone (v : BitVec 9) : (s.setTabSel v).initDone = s.initDone := rfl
@[simp] theorem State.setTabSel_cmdErr (v : BitVec 9) : (s.setTabSel v).cmdErr = s.cmdErr := rfl
@[simp] theorem State.setTabSel_gdeg (v : BitVec 9) : (s.setTabSel v).gdeg = s.gdeg := rfl
@[simp] theorem State.setTabSel_inReset (v : BitVec 9) : (s.setTabSel v).inReset = s.inReset := rfl
@[simp] theorem State.setTabSel_pending (v : BitVec 9) : (s.setTabSel v).pending = s.pending := rfl
@[simp] theorem State.setTabSel_response (v : BitVec 9) : (s.setTabSel v).response = s.response := rfl
@[simp] theorem State.setTabSel_freeCount (v : BitVec 9) : (s.setTabSel v).freeCount = s.freeCount := rfl

@[simp] theorem State.setCodeOut_config (c : Stored) : (s.setCodeOut c).config = s.config := rfl
@[simp] theorem State.setCodeOut_cfgN (c : Stored) : (s.setCodeOut c).cfgN = s.cfgN := rfl
@[simp] theorem State.setCodeOut_cfgK (c : Stored) : (s.setCodeOut c).cfgK = s.cfgK := rfl
@[simp] theorem State.setCodeOut_cfgPoly (c : Stored) : (s.setCodeOut c).cfgPoly = s.cfgPoly := rfl
@[simp] theorem State.setCodeOut_dataIn (c : Stored) : (s.setCodeOut c).dataIn = s.dataIn := rfl
@[simp] theorem State.setCodeOut_codeOut (c : Stored) : (s.setCodeOut c).codeOut = c := rfl
@[simp] theorem State.setCodeOut_tabSel (c : Stored) : (s.setCodeOut c).tabSel = s.tabSel := rfl
@[simp] theorem State.setCodeOut_aN (c : Stored) : (s.setCodeOut c).aN = s.aN := rfl
@[simp] theorem State.setCodeOut_aK (c : Stored) : (s.setCodeOut c).aK = s.aK := rfl
@[simp] theorem State.setCodeOut_aPoly (c : Stored) : (s.setCodeOut c).aPoly = s.aPoly := rfl
@[simp] theorem State.setCodeOut_alphaTo (c : Stored) : (s.setCodeOut c).alphaTo = s.alphaTo := rfl
@[simp] theorem State.setCodeOut_indexOf (c : Stored) : (s.setCodeOut c).indexOf = s.indexOf := rfl
@[simp] theorem State.setCodeOut_gAcc (c : Stored) : (s.setCodeOut c).gAcc = s.gAcc := rfl
@[simp] theorem State.setCodeOut_fieldOk (c : Stored) : (s.setCodeOut c).fieldOk = s.fieldOk := rfl
@[simp] theorem State.setCodeOut_genOk (c : Stored) : (s.setCodeOut c).genOk = s.genOk := rfl
@[simp] theorem State.setCodeOut_initDone (c : Stored) : (s.setCodeOut c).initDone = s.initDone := rfl
@[simp] theorem State.setCodeOut_cmdErr (c : Stored) : (s.setCodeOut c).cmdErr = s.cmdErr := rfl
@[simp] theorem State.setCodeOut_gdeg (c : Stored) : (s.setCodeOut c).gdeg = s.gdeg := rfl
@[simp] theorem State.setCodeOut_inReset (c : Stored) : (s.setCodeOut c).inReset = s.inReset := rfl
@[simp] theorem State.setCodeOut_pending (c : Stored) : (s.setCodeOut c).pending = s.pending := rfl
@[simp] theorem State.setCodeOut_response (c : Stored) : (s.setCodeOut c).response = s.response := rfl
@[simp] theorem State.setCodeOut_freeCount (c : Stored) : (s.setCodeOut c).freeCount = s.freeCount := rfl

@[simp] theorem State.setCmdErr_config (b : Bool) : (s.setCmdErr b).config = s.config := rfl
@[simp] theorem State.setCmdErr_cfgN (b : Bool) : (s.setCmdErr b).cfgN = s.cfgN := rfl
@[simp] theorem State.setCmdErr_cfgK (b : Bool) : (s.setCmdErr b).cfgK = s.cfgK := rfl
@[simp] theorem State.setCmdErr_cfgPoly (b : Bool) : (s.setCmdErr b).cfgPoly = s.cfgPoly := rfl
@[simp] theorem State.setCmdErr_dataIn (b : Bool) : (s.setCmdErr b).dataIn = s.dataIn := rfl
@[simp] theorem State.setCmdErr_codeOut (b : Bool) : (s.setCmdErr b).codeOut = s.codeOut := rfl
@[simp] theorem State.setCmdErr_tabSel (b : Bool) : (s.setCmdErr b).tabSel = s.tabSel := rfl
@[simp] theorem State.setCmdErr_aN (b : Bool) : (s.setCmdErr b).aN = s.aN := rfl
@[simp] theorem State.setCmdErr_aK (b : Bool) : (s.setCmdErr b).aK = s.aK := rfl
@[simp] theorem State.setCmdErr_aPoly (b : Bool) : (s.setCmdErr b).aPoly = s.aPoly := rfl
@[simp] theorem State.setCmdErr_alphaTo (b : Bool) : (s.setCmdErr b).alphaTo = s.alphaTo := rfl
@[simp] theorem State.setCmdErr_indexOf (b : Bool) : (s.setCmdErr b).indexOf = s.indexOf := rfl
@[simp] theorem State.setCmdErr_gAcc (b : Bool) : (s.setCmdErr b).gAcc = s.gAcc := rfl
@[simp] theorem State.setCmdErr_fieldOk (b : Bool) : (s.setCmdErr b).fieldOk = s.fieldOk := rfl
@[simp] theorem State.setCmdErr_genOk (b : Bool) : (s.setCmdErr b).genOk = s.genOk := rfl
@[simp] theorem State.setCmdErr_initDone (b : Bool) : (s.setCmdErr b).initDone = s.initDone := rfl
@[simp] theorem State.setCmdErr_cmdErr (b : Bool) : (s.setCmdErr b).cmdErr = b := rfl
@[simp] theorem State.setCmdErr_gdeg (b : Bool) : (s.setCmdErr b).gdeg = s.gdeg := rfl
@[simp] theorem State.setCmdErr_inReset (b : Bool) : (s.setCmdErr b).inReset = s.inReset := rfl
@[simp] theorem State.setCmdErr_pending (b : Bool) : (s.setCmdErr b).pending = s.pending := rfl
@[simp] theorem State.setCmdErr_response (b : Bool) : (s.setCmdErr b).response = s.response := rfl
@[simp] theorem State.setCmdErr_freeCount (b : Bool) : (s.setCmdErr b).freeCount = s.freeCount := rfl

@[simp] theorem State.setInitDone_config (b : Bool) : (s.setInitDone b).config = s.config := rfl
@[simp] theorem State.setInitDone_cfgN (b : Bool) : (s.setInitDone b).cfgN = s.cfgN := rfl
@[simp] theorem State.setInitDone_cfgK (b : Bool) : (s.setInitDone b).cfgK = s.cfgK := rfl
@[simp] theorem State.setInitDone_cfgPoly (b : Bool) : (s.setInitDone b).cfgPoly = s.cfgPoly := rfl
@[simp] theorem State.setInitDone_dataIn (b : Bool) : (s.setInitDone b).dataIn = s.dataIn := rfl
@[simp] theorem State.setInitDone_codeOut (b : Bool) : (s.setInitDone b).codeOut = s.codeOut := rfl
@[simp] theorem State.setInitDone_tabSel (b : Bool) : (s.setInitDone b).tabSel = s.tabSel := rfl
@[simp] theorem State.setInitDone_aN (b : Bool) : (s.setInitDone b).aN = s.aN := rfl
@[simp] theorem State.setInitDone_aK (b : Bool) : (s.setInitDone b).aK = s.aK := rfl
@[simp] theorem State.setInitDone_aPoly (b : Bool) : (s.setInitDone b).aPoly = s.aPoly := rfl
@[simp] theorem State.setInitDone_alphaTo (b : Bool) : (s.setInitDone b).alphaTo = s.alphaTo := rfl
@[simp] theorem State.setInitDone_indexOf (b : Bool) : (s.setInitDone b).indexOf = s.indexOf := rfl
@[simp] theorem State.setInitDone_gAcc (b : Bool) : (s.setInitDone b).gAcc = s.gAcc := rfl
@[simp] theorem State.setInitDone_fieldOk (b : Bool) : (s.setInitDone b).fieldOk = s.fieldOk := rfl
@[simp] theorem State.setInitDone_genOk (b : Bool) : (s.setInitDone b).genOk = s.genOk := rfl
@[simp] theorem State.setInitDone_initDone (b : Bool) : (s.setInitDone b).initDone = b := rfl
@[simp] theorem State.setInitDone_cmdErr (b : Bool) : (s.setInitDone b).cmdErr = s.cmdErr := rfl
@[simp] theorem State.setInitDone_gdeg (b : Bool) : (s.setInitDone b).gdeg = s.gdeg := rfl
@[simp] theorem State.setInitDone_inReset (b : Bool) : (s.setInitDone b).inReset = s.inReset := rfl
@[simp] theorem State.setInitDone_pending (b : Bool) : (s.setInitDone b).pending = s.pending := rfl
@[simp] theorem State.setInitDone_response (b : Bool) : (s.setInitDone b).response = s.response := rfl
@[simp] theorem State.setInitDone_freeCount (b : Bool) : (s.setInitDone b).freeCount = s.freeCount := rfl

@[simp] theorem State.setActive_config (n k poly : Word) : (s.setActive n k poly).config = s.config := rfl
@[simp] theorem State.setActive_cfgN (n k poly : Word) : (s.setActive n k poly).cfgN = s.cfgN := rfl
@[simp] theorem State.setActive_cfgK (n k poly : Word) : (s.setActive n k poly).cfgK = s.cfgK := rfl
@[simp] theorem State.setActive_cfgPoly (n k poly : Word) : (s.setActive n k poly).cfgPoly = s.cfgPoly := rfl
@[simp] theorem State.setActive_dataIn (n k poly : Word) : (s.setActive n k poly).dataIn = s.dataIn := rfl
@[simp] theorem State.setActive_codeOut (n k poly : Word) : (s.setActive n k poly).codeOut = s.codeOut := rfl
@[simp] theorem State.setActive_tabSel (n k poly : Word) : (s.setActive n k poly).tabSel = s.tabSel := rfl
@[simp] theorem State.setActive_aN (n k poly : Word) : (s.setActive n k poly).aN = n := rfl
@[simp] theorem State.setActive_aK (n k poly : Word) : (s.setActive n k poly).aK = k := rfl
@[simp] theorem State.setActive_aPoly (n k poly : Word) : (s.setActive n k poly).aPoly = poly := rfl
@[simp] theorem State.setActive_alphaTo (n k poly : Word) : (s.setActive n k poly).alphaTo = s.alphaTo := rfl
@[simp] theorem State.setActive_indexOf (n k poly : Word) : (s.setActive n k poly).indexOf = s.indexOf := rfl
@[simp] theorem State.setActive_gAcc (n k poly : Word) : (s.setActive n k poly).gAcc = s.gAcc := rfl
@[simp] theorem State.setActive_fieldOk (n k poly : Word) : (s.setActive n k poly).fieldOk = s.fieldOk := rfl
@[simp] theorem State.setActive_genOk (n k poly : Word) : (s.setActive n k poly).genOk = s.genOk := rfl
@[simp] theorem State.setActive_initDone (n k poly : Word) : (s.setActive n k poly).initDone = s.initDone := rfl
@[simp] theorem State.setActive_cmdErr (n k poly : Word) : (s.setActive n k poly).cmdErr = s.cmdErr := rfl
@[simp] theorem State.setActive_gdeg (n k poly : Word) : (s.setActive n k poly).gdeg = s.gdeg := rfl
@[simp] theorem State.setActive_inReset (n k poly : Word) : (s.setActive n k poly).inReset = s.inReset := rfl
@[simp] theorem State.setActive_pending (n k poly : Word) : (s.setActive n k poly).pending = s.pending := rfl
@[simp] theorem State.setActive_response (n k poly : Word) : (s.setActive n k poly).response = s.response := rfl
@[simp] theorem State.setActive_freeCount (n k poly : Word) : (s.setActive n k poly).freeCount = s.freeCount := rfl

@[simp] theorem State.setField_config (al ix : List Stored) (b : Bool) : (s.setField al ix b).config = s.config := rfl
@[simp] theorem State.setField_cfgN (al ix : List Stored) (b : Bool) : (s.setField al ix b).cfgN = s.cfgN := rfl
@[simp] theorem State.setField_cfgK (al ix : List Stored) (b : Bool) : (s.setField al ix b).cfgK = s.cfgK := rfl
@[simp] theorem State.setField_cfgPoly (al ix : List Stored) (b : Bool) : (s.setField al ix b).cfgPoly = s.cfgPoly := rfl
@[simp] theorem State.setField_dataIn (al ix : List Stored) (b : Bool) : (s.setField al ix b).dataIn = s.dataIn := rfl
@[simp] theorem State.setField_codeOut (al ix : List Stored) (b : Bool) : (s.setField al ix b).codeOut = s.codeOut := rfl
@[simp] theorem State.setField_tabSel (al ix : List Stored) (b : Bool) : (s.setField al ix b).tabSel = s.tabSel := rfl
@[simp] theorem State.setField_aN (al ix : List Stored) (b : Bool) : (s.setField al ix b).aN = s.aN := rfl
@[simp] theorem State.setField_aK (al ix : List Stored) (b : Bool) : (s.setField al ix b).aK = s.aK := rfl
@[simp] theorem State.setField_aPoly (al ix : List Stored) (b : Bool) : (s.setField al ix b).aPoly = s.aPoly := rfl
@[simp] theorem State.setField_alphaTo (al ix : List Stored) (b : Bool) : (s.setField al ix b).alphaTo = al := rfl
@[simp] theorem State.setField_indexOf (al ix : List Stored) (b : Bool) : (s.setField al ix b).indexOf = ix := rfl
@[simp] theorem State.setField_gAcc (al ix : List Stored) (b : Bool) : (s.setField al ix b).gAcc = s.gAcc := rfl
@[simp] theorem State.setField_fieldOk (al ix : List Stored) (b : Bool) : (s.setField al ix b).fieldOk = b := rfl
@[simp] theorem State.setField_genOk (al ix : List Stored) (b : Bool) : (s.setField al ix b).genOk = s.genOk := rfl
@[simp] theorem State.setField_initDone (al ix : List Stored) (b : Bool) : (s.setField al ix b).initDone = s.initDone := rfl
@[simp] theorem State.setField_cmdErr (al ix : List Stored) (b : Bool) : (s.setField al ix b).cmdErr = s.cmdErr := rfl
@[simp] theorem State.setField_gdeg (al ix : List Stored) (b : Bool) : (s.setField al ix b).gdeg = s.gdeg := rfl
@[simp] theorem State.setField_inReset (al ix : List Stored) (b : Bool) : (s.setField al ix b).inReset = s.inReset := rfl
@[simp] theorem State.setField_pending (al ix : List Stored) (b : Bool) : (s.setField al ix b).pending = s.pending := rfl
@[simp] theorem State.setField_response (al ix : List Stored) (b : Bool) : (s.setField al ix b).response = s.response := rfl
@[simp] theorem State.setField_freeCount (al ix : List Stored) (b : Bool) : (s.setField al ix b).freeCount = s.freeCount := rfl

@[simp] theorem State.setGen_config (g : Stored) (d : BitVec 5) (b : Bool) : (s.setGen g d b).config = s.config := rfl
@[simp] theorem State.setGen_cfgN (g : Stored) (d : BitVec 5) (b : Bool) : (s.setGen g d b).cfgN = s.cfgN := rfl
@[simp] theorem State.setGen_cfgK (g : Stored) (d : BitVec 5) (b : Bool) : (s.setGen g d b).cfgK = s.cfgK := rfl
@[simp] theorem State.setGen_cfgPoly (g : Stored) (d : BitVec 5) (b : Bool) : (s.setGen g d b).cfgPoly = s.cfgPoly := rfl
@[simp] theorem State.setGen_dataIn (g : Stored) (d : BitVec 5) (b : Bool) : (s.setGen g d b).dataIn = s.dataIn := rfl
@[simp] theorem State.setGen_codeOut (g : Stored) (d : BitVec 5) (b : Bool) : (s.setGen g d b).codeOut = s.codeOut := rfl
@[simp] theorem State.setGen_tabSel (g : Stored) (d : BitVec 5) (b : Bool) : (s.setGen g d b).tabSel = s.tabSel := rfl
@[simp] theorem State.setGen_aN (g : Stored) (d : BitVec 5) (b : Bool) : (s.setGen g d b).aN = s.aN := rfl
@[simp] theorem State.setGen_aK (g : Stored) (d : BitVec 5) (b : Bool) : (s.setGen g d b).aK = s.aK := rfl
@[simp] theorem State.setGen_aPoly (g : Stored) (d : BitVec 5) (b : Bool) : (s.setGen g d b).aPoly = s.aPoly := rfl
@[simp] theorem State.setGen_alphaTo (g : Stored) (d : BitVec 5) (b : Bool) : (s.setGen g d b).alphaTo = s.alphaTo := rfl
@[simp] theorem State.setGen_indexOf (g : Stored) (d : BitVec 5) (b : Bool) : (s.setGen g d b).indexOf = s.indexOf := rfl
@[simp] theorem State.setGen_gAcc (g : Stored) (d : BitVec 5) (b : Bool) : (s.setGen g d b).gAcc = g := rfl
@[simp] theorem State.setGen_fieldOk (g : Stored) (d : BitVec 5) (b : Bool) : (s.setGen g d b).fieldOk = s.fieldOk := rfl
@[simp] theorem State.setGen_genOk (g : Stored) (d : BitVec 5) (b : Bool) : (s.setGen g d b).genOk = b := rfl
@[simp] theorem State.setGen_initDone (g : Stored) (d : BitVec 5) (b : Bool) : (s.setGen g d b).initDone = s.initDone := rfl
@[simp] theorem State.setGen_cmdErr (g : Stored) (d : BitVec 5) (b : Bool) : (s.setGen g d b).cmdErr = s.cmdErr := rfl
@[simp] theorem State.setGen_gdeg (g : Stored) (d : BitVec 5) (b : Bool) : (s.setGen g d b).gdeg = d := rfl
@[simp] theorem State.setGen_inReset (g : Stored) (d : BitVec 5) (b : Bool) : (s.setGen g d b).inReset = s.inReset := rfl
@[simp] theorem State.setGen_pending (g : Stored) (d : BitVec 5) (b : Bool) : (s.setGen g d b).pending = s.pending := rfl
@[simp] theorem State.setGen_response (g : Stored) (d : BitVec 5) (b : Bool) : (s.setGen g d b).response = s.response := rfl
@[simp] theorem State.setGen_freeCount (g : Stored) (d : BitVec 5) (b : Bool) : (s.setGen g d b).freeCount = s.freeCount := rfl

@[simp] theorem State.toReset_config : (s.toReset).config = s.config := rfl
@[simp] theorem State.toReset_cfgN : (s.toReset).cfgN = 0 := rfl
@[simp] theorem State.toReset_cfgK : (s.toReset).cfgK = 0 := rfl
@[simp] theorem State.toReset_cfgPoly : (s.toReset).cfgPoly = 0 := rfl
@[simp] theorem State.toReset_dataIn : (s.toReset).dataIn = 0 := rfl
@[simp] theorem State.toReset_codeOut : (s.toReset).codeOut = some 0 := rfl
@[simp] theorem State.toReset_tabSel : (s.toReset).tabSel = 0 := rfl
@[simp] theorem State.toReset_aN : (s.toReset).aN = 0 := rfl
@[simp] theorem State.toReset_aK : (s.toReset).aK = 0 := rfl
@[simp] theorem State.toReset_aPoly : (s.toReset).aPoly = 0 := rfl
@[simp] theorem State.toReset_alphaTo : (s.toReset).alphaTo = List.replicate (s.config.nMax + 1) none := rfl
@[simp] theorem State.toReset_indexOf : (s.toReset).indexOf = List.replicate (s.config.nMax + 1) none := rfl
@[simp] theorem State.toReset_gAcc : (s.toReset).gAcc = none := rfl
@[simp] theorem State.toReset_fieldOk : (s.toReset).fieldOk = false := rfl
@[simp] theorem State.toReset_genOk : (s.toReset).genOk = false := rfl
@[simp] theorem State.toReset_initDone : (s.toReset).initDone = false := rfl
@[simp] theorem State.toReset_cmdErr : (s.toReset).cmdErr = false := rfl
@[simp] theorem State.toReset_gdeg : (s.toReset).gdeg = 0 := rfl
@[simp] theorem State.toReset_inReset : (s.toReset).inReset = false := rfl
@[simp] theorem State.toReset_pending : (s.toReset).pending = s.pending := rfl
@[simp] theorem State.toReset_response : (s.toReset).response = .idle := rfl
@[simp] theorem State.toReset_freeCount : (s.toReset).freeCount = s.freeCount := rfl

end fields

end Sys2Proof.Machine
end

