-- ==== Sys2Proof/Laws/Field.lean ====
section
/-! SUPPORT. Laws/Field.lean: sizes and entries of the field tables (41_field_tables.md), and what BuildField can do. -/

namespace Sys2Proof.Machine

open Sys2Proof

/-- The range test of BuildField, as a proposition (R120, R121). -/
theorem fieldInRange_iff (c : Config) (m n : Nat) :
    fieldInRange c m n = true ↔ 1 ≤ m ∧ m ≤ c.mMax ∧ m ≤ n ∧ n ≤ c.nMax := by
  simp [fieldInRange, and_assoc]

@[simp] theorem blankTable_length (c : Config) : (blankTable c).length = c.nMax + 1 := by simp [blankTable]

/-- Every entry of a blank table is ⊥. -/
theorem blankTable_getElem? (c : Config) {i : Nat} (h : i ≤ c.nMax) : (blankTable c)[i]? = some none := by
  simp [blankTable, Nat.lt_succ_of_le h]

@[simp] theorem alphaTable_length (c : Config) (m n poly : Nat) : (alphaTable c m n poly).length = c.nMax + 1 := by
  simp [alphaTable]

/-- Entries up to n follow the recurrence, entries above n are ⊥ (R121, R124). -/
theorem alphaTable_getElem? (c : Config) (m n poly : Nat) {i : Nat} (h : i ≤ c.nMax) :
    (alphaTable c m n poly)[i]? = some (if i ≤ n then some (BitVec.ofNat 32 (alphaAt m poly i)) else none) := by
  simp [alphaTable, Nat.lt_succ_of_le h]

@[simp] theorem fillIndex_length (alpha : List Stored) : ∀ n t, (fillIndex alpha n t).length = t.length
  | 0, _ => rfl
  | n + 1, t => by simp [fillIndex, fillIndex_length alpha n]

@[simp] theorem indexTable_length (c : Config) (n : Nat) (alpha : List Stored) :
    (indexTable c n alpha).length = c.nMax + 1 := by simp [indexTable]

/-! ## Entries of the exponential table -/

/-- Clearing or missing the top bit brings a mask down one degree. -/
theorem lt_two_pow_of_top_clear {a m : Nat} (hlt : a < 2 ^ (m + 1)) (htop : a.testBit m = false) : a < 2 ^ m := by
  rcases Nat.lt_or_ge a (2 ^ m) with h | h
  · exact h
  · have hq : a / 2 ^ m = 1 := by apply Nat.div_eq_of_lt_le <;> rw [Nat.pow_succ] at hlt <;> omega
    simp [Nat.testBit_eq_decide_div_mod_eq, hq] at htop

/-- Two masks of degree m differ by a mask of lower degree. -/
theorem xor_lt_two_pow_of_top {a b m : Nat} (ha : a < 2 ^ (m + 1)) (hb : b < 2 ^ (m + 1)) (hta : a.testBit m = true)
    (htb : b.testBit m = true) : a ^^^ b < 2 ^ m :=
  lt_two_pow_of_top_clear (Nat.xor_lt_two_pow ha hb) (by simp [Nat.testBit_xor, hta, htb])

/-- "it is a mask of degree below m" (R125): every entry of the recurrence, for a polynomial of degree m ≥ 1. -/
theorem alphaAt_lt {m poly : Nat} (hm : 1 ≤ m) (hdeg : deg poly = m) : ∀ i, alphaAt m poly i < 2 ^ m
  | 0 => by
    have : 2 ^ 1 ≤ 2 ^ m := Nat.pow_le_pow_right (by decide) hm
    simp [alphaAt, Nat.lt_of_lt_of_le Nat.zero_lt_one hm]; omega
  | i + 1 => by
    have hne : poly ≠ 0 := by rintro rfl; rw [← hdeg] at hm; exact absurd hm (by decide)
    have htop : poly.testBit m = true := hdeg ▸ testBit_deg hne
    have hlt : poly < 2 ^ (m + 1) := hdeg ▸ lt_two_pow_deg_succ poly
    simp only [alphaAt]
    split
    · exact Nat.pow_lt_pow_right (by decide) ‹_›
    · split
      · exact xor_lt_two_pow_of_top hlt (Nat.pow_lt_pow_right (by decide) (Nat.lt_succ_self m)) htop (by simp)
      · have hs : alphaAt m poly i <<< 1 < 2 ^ (m + 1) := by
          have := alphaAt_lt hm hdeg i
          rw [Nat.shiftLeft_eq, Nat.pow_succ]; omega
        simp only [alphaNext]
        split
        · exact xor_lt_two_pow_of_top hs hlt ‹_› htop
        · exact lt_two_pow_of_top_clear hs (Bool.eq_false_iff.2 ‹_›)

/-- A defined entry of the stored table is the recurrence's value, with no wrap (R125). -/
theorem look_alphaTable {c : Config} {m n poly i : Nat} (hm : 1 ≤ m) (hm32 : m ≤ 32) (hdeg : deg poly = m) (hi : i ≤ n)
    (hn : n ≤ c.nMax) : look (alphaTable c m n poly) i = alphaAt m poly i := by
  have hlt : alphaAt m poly i < 2 ^ 32 :=
    Nat.lt_of_lt_of_le (alphaAt_lt hm hdeg i) (Nat.pow_le_pow_right (by decide) hm32)
  have hget := alphaTable_getElem? c m n poly (Nat.le_trans hi hn)
  simp only [hi, if_true] at hget
  simpa [look, List.getD_eq_getElem?_getD, hget] using hlt

/-! ## The valid fields -/

/-- The primitive polynomials of degree 1 to 5 with their m and n: the fields of 95_test_vectors.md 2.1 and the others. -/
def validFields : List (Nat × Nat × Nat) :=
  [(1, 1, 0x3), (2, 3, 0x7), (3, 7, 0xB), (3, 7, 0xD), (4, 15, 0x13), (4, 15, 0x19), (5, 31, 0x25), (5, 31, 0x29),
   (5, 31, 0x2F), (5, 31, 0x37), (5, 31, 0x3B), (5, 31, 0x3D)]

/-- The order test of R127 on the recurrence: x has order exactly 2^m − 1 modulo the polynomial. -/
def hasFullOrder (poly : Nat) : Bool :=
  decide (1 ≤ deg poly) && decide (alphaAt (deg poly) poly (2 ^ deg poly - 1) = 1)
    && (List.range (2 ^ deg poly - 1)).all (fun i => decide (i = 0) || decide (alphaAt (deg poly) poly i ≠ 1))

/-- The polynomials below 64 that pass the order test. -/
theorem validFields_complete : ∀ poly, poly < 64 → hasFullOrder poly = true →
    (deg poly, 2 ^ deg poly - 1, poly) ∈ validFields := by
  decide +kernel

/-- FIELD_OK = 1 leaves twelve fields, whatever M_MAX in 1 to 5 (R8, R127). -/
theorem fieldOkFlag_mem_validFields {c : Config} (hc : c.wf) {m n poly : Nat} (hdeg : deg poly = m)
    (h : fieldOkFlag c m n (alphaTable c m n poly) = true) : (m, n, poly) ∈ validFields := by
  simp only [fieldOkFlag, Bool.and_eq_true, decide_eq_true_eq, List.all_eq_true, List.mem_range, Bool.or_eq_true,
    fieldInRange_iff] at h
  obtain ⟨⟨⟨⟨hm, hmax, hmn, hn⟩, hord⟩, hone⟩, hfirst⟩ := h
  have hm5 : m ≤ 5 := Nat.le_trans hmax hc.2.1
  have hlook {i : Nat} (hi : i ≤ n) := look_alphaTable (c := c) (n := n) hm (Nat.le_trans hm5 (by decide)) hdeg hi hn
  have hpoly : poly < 64 :=
    Nat.lt_of_lt_of_le (lt_two_pow_deg_succ poly)
      (Nat.le_trans (Nat.pow_le_pow_right (by decide) (Nat.succ_le_succ (hdeg ▸ hm5))) (by decide : 2 ^ 6 ≤ 64))
  subst hord
  subst hdeg
  refine validFields_complete poly hpoly ?_
  simp only [hasFullOrder, Bool.and_eq_true, decide_eq_true_eq, List.all_eq_true, List.mem_range, Bool.or_eq_true]
  refine ⟨⟨hm, by rw [← hlook (Nat.le_refl _)]; exact hone⟩, fun i hi => ?_⟩
  rw [← hlook (Nat.le_of_lt hi)]
  exact hfirst i hi

/-! ## BuildField -/

/-- Everything BuildField can do: blank both tables, or write the recurrence and, for a valid field, its inverse. -/
theorem buildField_cases (s : State) :
    (fieldInRange s.config s.aM s.n = false
      ∧ s.buildField = s.setField (blankTable s.config) (blankTable s.config) false)
    ∨ (fieldInRange s.config s.aM s.n = true
      ∧ fieldOkFlag s.config s.aM s.n (alphaTable s.config s.aM s.n s.aPoly.toNat) = false
      ∧ s.buildField = s.setField (alphaTable s.config s.aM s.n s.aPoly.toNat) (blankTable s.config) false)
    ∨ (fieldInRange s.config s.aM s.n = true
      ∧ fieldOkFlag s.config s.aM s.n (alphaTable s.config s.aM s.n s.aPoly.toNat) = true
      ∧ s.buildField = s.setField (alphaTable s.config s.aM s.n s.aPoly.toNat)
          (indexTable s.config s.n (alphaTable s.config s.aM s.n s.aPoly.toNat)) true) := by
  cases hr : fieldInRange s.config s.aM s.n
  · exact .inl ⟨rfl, by simp [State.buildField, hr]⟩
  · cases hf : fieldOkFlag s.config s.aM s.n (alphaTable s.config s.aM s.n s.aPoly.toNat)
    · exact .inr (.inl ⟨rfl, rfl, by simp [State.buildField, hr, hf]⟩)
    · exact .inr (.inr ⟨rfl, rfl, by simp [State.buildField, hr, hf]⟩)

end Sys2Proof.Machine
end

