-- ==== Sys2Proof/Laws/Commands.lean ====
section
/-! SUPPORT. Laws/Commands.lean: what each stage of INIT leaves alone, the cases of BuildGenerator, of EncodeOp and of the
dispatch of R101. -/

namespace Sys2Proof.Machine

open Sys2Proof

section stages

variable (s : State)

/-! ## BuildField writes alphaTo, indexOf and FIELD_OK only -/

@[simp] theorem State.buildField_config : s.buildField.config = s.config := by unfold State.buildField; split <;> rfl
@[simp] theorem State.buildField_cfgN : s.buildField.cfgN = s.cfgN := by unfold State.buildField; split <;> rfl
@[simp] theorem State.buildField_cfgK : s.buildField.cfgK = s.cfgK := by unfold State.buildField; split <;> rfl
@[simp] theorem State.buildField_cfgPoly : s.buildField.cfgPoly = s.cfgPoly := by unfold State.buildField; split <;> rfl
@[simp] theorem State.buildField_dataIn : s.buildField.dataIn = s.dataIn := by unfold State.buildField; split <;> rfl
@[simp] theorem State.buildField_codeOut : s.buildField.codeOut = s.codeOut := by unfold State.buildField; split <;> rfl
@[simp] theorem State.buildField_tabSel : s.buildField.tabSel = s.tabSel := by unfold State.buildField; split <;> rfl
@[simp] theorem State.buildField_aN : s.buildField.aN = s.aN := by unfold State.buildField; split <;> rfl
@[simp] theorem State.buildField_aK : s.buildField.aK = s.aK := by unfold State.buildField; split <;> rfl
@[simp] theorem State.buildField_aPoly : s.buildField.aPoly = s.aPoly := by unfold State.buildField; split <;> rfl
@[simp] theorem State.buildField_gAcc : s.buildField.gAcc = s.gAcc := by unfold State.buildField; split <;> rfl
@[simp] theorem State.buildField_genOk : s.buildField.genOk = s.genOk := by unfold State.buildField; split <;> rfl
@[simp] theorem State.buildField_initDone : s.buildField.initDone = s.initDone := by unfold State.buildField; split <;> rfl
@[simp] theorem State.buildField_cmdErr : s.buildField.cmdErr = s.cmdErr := by unfold State.buildField; split <;> rfl
@[simp] theorem State.buildField_gdeg : s.buildField.gdeg = s.gdeg := by unfold State.buildField; split <;> rfl
@[simp] theorem State.buildField_inReset : s.buildField.inReset = s.inReset := by unfold State.buildField; split <;> rfl
@[simp] theorem State.buildField_pending : s.buildField.pending = s.pending := by unfold State.buildField; split <;> rfl
@[simp] theorem State.buildField_response : s.buildField.response = s.response := by unfold State.buildField; split <;> rfl
@[simp] theorem State.buildField_freeCount : s.buildField.freeCount = s.freeCount := by unfold State.buildField; split <;> rfl

/-! ## BuildGenerator writes g_acc, GDEG and GEN_OK only -/

@[simp] theorem State.buildGenerator_config : s.buildGenerator.config = s.config := by unfold State.buildGenerator; split <;> rfl
@[simp] theorem State.buildGenerator_cfgN : s.buildGenerator.cfgN = s.cfgN := by unfold State.buildGenerator; split <;> rfl
@[simp] theorem State.buildGenerator_cfgK : s.buildGenerator.cfgK = s.cfgK := by unfold State.buildGenerator; split <;> rfl
@[simp] theorem State.buildGenerator_cfgPoly : s.buildGenerator.cfgPoly = s.cfgPoly := by unfold State.buildGenerator; split <;> rfl
@[simp] theorem State.buildGenerator_dataIn : s.buildGenerator.dataIn = s.dataIn := by unfold State.buildGenerator; split <;> rfl
@[simp] theorem State.buildGenerator_codeOut : s.buildGenerator.codeOut = s.codeOut := by unfold State.buildGenerator; split <;> rfl
@[simp] theorem State.buildGenerator_tabSel : s.buildGenerator.tabSel = s.tabSel := by unfold State.buildGenerator; split <;> rfl
@[simp] theorem State.buildGenerator_aN : s.buildGenerator.aN = s.aN := by unfold State.buildGenerator; split <;> rfl
@[simp] theorem State.buildGenerator_aK : s.buildGenerator.aK = s.aK := by unfold State.buildGenerator; split <;> rfl
@[simp] theorem State.buildGenerator_aPoly : s.buildGenerator.aPoly = s.aPoly := by unfold State.buildGenerator; split <;> rfl
@[simp] theorem State.buildGenerator_alphaTo : s.buildGenerator.alphaTo = s.alphaTo := by unfold State.buildGenerator; split <;> rfl
@[simp] theorem State.buildGenerator_indexOf : s.buildGenerator.indexOf = s.indexOf := by unfold State.buildGenerator; split <;> rfl
@[simp] theorem State.buildGenerator_fieldOk : s.buildGenerator.fieldOk = s.fieldOk := by unfold State.buildGenerator; split <;> rfl
@[simp] theorem State.buildGenerator_initDone : s.buildGenerator.initDone = s.initDone := by unfold State.buildGenerator; split <;> rfl
@[simp] theorem State.buildGenerator_cmdErr : s.buildGenerator.cmdErr = s.cmdErr := by unfold State.buildGenerator; split <;> rfl
@[simp] theorem State.buildGenerator_inReset : s.buildGenerator.inReset = s.inReset := by unfold State.buildGenerator; split <;> rfl
@[simp] theorem State.buildGenerator_pending : s.buildGenerator.pending = s.pending := by unfold State.buildGenerator; split <;> rfl
@[simp] theorem State.buildGenerator_response : s.buildGenerator.response = s.response := by unfold State.buildGenerator; split <;> rfl
@[simp] theorem State.buildGenerator_freeCount : s.buildGenerator.freeCount = s.freeCount := by unfold State.buildGenerator; split <;> rfl

/-- Everything BuildGenerator can do: build the product, or leave ⊥, 0 and 0 (R144, R149). -/
theorem buildGenerator_cases :
    ((s.fieldOk = true ∧ s.k < s.n)
      ∧ s.buildGenerator = s.setGen (some (BitVec.ofNat 32 (generator s.n s.k s.alphaTo s.indexOf)))
          (gdegField (generator s.n s.k s.alphaTo s.indexOf)) (genOkFlag (generator s.n s.k s.alphaTo s.indexOf) s.p))
    ∨ (¬(s.fieldOk = true ∧ s.k < s.n) ∧ s.buildGenerator = s.setGen none 0 false) := by
  by_cases h : s.fieldOk = true ∧ s.k < s.n
  · exact .inl ⟨h, by unfold State.buildGenerator; rw [if_pos h]⟩
  · exact .inr ⟨h, by unfold State.buildGenerator; rw [if_neg h]⟩

/-- EncodeOp on a defined input (R160). -/
theorem encodeOp_defined {s : State} {d g : Word} (hok : s.genOk = true) (hg : s.gAcc = some g) (hd : d.toNat < 2 ^ s.k) :
    encodeOp s d = some (BitVec.ofNat 32 (codeWord d.toNat s.k s.p g.toNat)) := by
  simp [encodeOp, hok, hg, hd]

/-- EncodeOp is ⊥ without a generator of the right degree (R162). -/
theorem encodeOp_of_not_genOk {s : State} (h : s.genOk = false) (d : Word) : encodeOp s d = none := by
  simp [encodeOp, h]

/-- EncodeOp is ⊥ for an oversized data word (R162). -/
theorem encodeOp_of_oversize {s : State} {d : Word} (h : 2 ^ s.k ≤ d.toNat) : encodeOp s d = none := by
  simp [encodeOp, Nat.not_lt.2 h]

/-- The arms of the dispatch of R101. -/
theorem runCommand_cases (w : Word) :
    (w = 0x00000000#32 ∧ s.runCommand w = s) ∨ (w = 0x00000001#32 ∧ s.runCommand w = s.runInit)
    ∨ (w = 0x00000002#32 ∧ s.runCommand w = s.runEncode) ∨ (2 < w.toNat ∧ s.runCommand w = s.illegalCommand) := by
  rcases decodeCommand_cases w with ⟨h, -⟩ | ⟨rfl, -⟩ | ⟨rfl, -⟩ | ⟨rfl, -⟩ | ⟨hlt, hop, hw, -⟩
  · have : ¬w.toNat < 16 := mt (cmdRsvd_eq_zero_iff w).2 h
    exact .inr (.inr (.inr ⟨by omega, by unfold State.runCommand; rw [if_pos h]⟩))
  · exact .inl ⟨rfl, rfl⟩
  · exact .inr (.inl ⟨rfl, rfl⟩)
  · exact .inr (.inr (.inl ⟨rfl, rfl⟩))
  · refine .inr (.inr (.inr ⟨?_, ?_⟩))
    · rw [hw]; simp; omega
    · have h0 : cmdRsvd w = 0#28 := (cmdRsvd_eq_zero_iff w).2 hlt
      have hne (v : BitVec 4) (hv : v.toNat < 3) : cmdOp w ≠ v := by rintro rfl; omega
      unfold State.runCommand
      rw [if_neg (by simp [h0]), if_neg (hne _ (by decide)), if_neg (hne _ (by decide)), if_neg (hne _ (by decide))]

end stages

end Sys2Proof.Machine
end

