-- ==== Sys2Proof/Laws/Encoder.lean ====
section
/-! SUPPORT. Laws/Encoder.lean: the remainder register of EncodeOp stays in its p bits (43_encoder.md R160). -/

namespace Sys2Proof.Machine

open Sys2Proof

/-- One data bit leaves a remainder of p bits. -/
theorem encodeStep_lt (d p g i r : Nat) : encodeStep d p g i r < 2 ^ p := by
  have hmask (x : Nat) : x &&& (2 ^ p - 1) < 2 ^ p := by
    rw [Nat.and_two_pow_sub_one_eq_mod]; exact Nat.mod_lt _ (Nat.two_pow_pos p)
  unfold encodeStep
  cases d.testBit i ^^ r.testBit (p - 1)
  · simpa using hmask _
  · simpa using Nat.xor_lt_two_pow (hmask _) (hmask _)

/-- The loop leaves a remainder of p bits. -/
theorem encodeLoop_lt (d p g : Nat) : ∀ k r, r < 2 ^ p → encodeLoop d p g k r < 2 ^ p
  | 0, _, h => h
  | k + 1, _, _ => encodeLoop_lt d p g k _ (encodeStep_lt d p g k _)

/-- The data bits above the parity bits: OR, XOR and + agree (43_encoder.md R160, R161). -/
theorem codeWord_eq_xor (d k p g : Nat) : codeWord d k p g = (d <<< p) ^^^ encodeLoop d p g k 0 := by
  have hlt : encodeLoop d p g k 0 < 2 ^ p := encodeLoop_lt d p g k 0 (Nat.two_pow_pos p)
  unfold codeWord
  apply Nat.eq_of_testBit_eq
  intro j
  by_cases hj : j < p
  · simp [Nat.testBit_or, Nat.testBit_xor, Nat.testBit_shiftLeft, Nat.not_le.2 hj]
  · have : (encodeLoop d p g k 0).testBit j = false :=
      Nat.testBit_lt_two_pow (Nat.lt_of_lt_of_le hlt (Nat.pow_le_pow_right (by decide) (Nat.not_lt.1 hj)))
    simp [Nat.testBit_or, Nat.testBit_xor, this]

end Sys2Proof.Machine
end

