-- ==== Sys2Proof/Laws/Ops.lean ====
section
/-! SUPPORT. Laws/Ops.lean: what each shared operation of Machine/Ops.lean can answer, said once. -/

namespace Sys2Proof.Machine

open Sys2Proof

/-- A read of a word answers with it and changes the response only. -/
theorem readWord_next {v : Word} {s t : State} : readWord v s = .next t ↔ t = s.respond (.data v) := by
  simp [readWord, eq_comm]

/-- A read of ⊥ answers with the next free value. -/
theorem readFree_next {s t : State} :
    readFree s = .next t ↔ t = s.drawn.respond (.data (Config.freeValue s.freeCount)) := by
  simp [readFree, eq_comm]

@[simp] theorem readStored_some (v : Word) (s : State) : readStored (some v) s = readWord v s := rfl

@[simp] theorem readStored_none (s : State) : readStored none s = readFree s := rfl

/-- A read of a storage element always completes, and changes the response and the count of free values only. -/
theorem readStored_completes (c : Stored) (s : State) :
    ∃ v j, readStored c s = .next { s with response := .data v, freeCount := j } := by
  cases c with
  | some v => exact ⟨v, s.freeCount, rfl⟩
  | none => exact ⟨Config.freeValue s.freeCount, s.freeCount + 1, rfl⟩

/-- A write completes with the state it has made and the response of a write. -/
theorem completeWrite_next {s t : State} : completeWrite s = .next t ↔ t = s.respond .written := by
  simp [completeWrite, eq_comm]

/-- The bus error is a fault, never a next state. -/
theorem raiseBusError_fault (offset : BitVec 6) (size : AccessSize) : ∃ f, raiseBusError offset size = .fault f :=
  ⟨_, rfl⟩

/-- A release of reset either finds it asserted, and resets, or changes nothing. -/
theorem releaseReset_cases (s : State) :
    (s.inReset = true ∧ releaseReset s = s.toReset) ∨ (s.inReset = false ∧ releaseReset s = s) := by
  cases h : s.inReset <;> simp [releaseReset, h]

end Sys2Proof.Machine
end

