-- ==== Sys2Proof/Laws/Exec.lean ====
section
/-! SUPPORT. Laws/Exec.lean: the inversion lemma of exec: what an instruction that answers a next state did. -/

namespace Sys2Proof.Machine

open Sys2Proof

/-- What an instruction does to the block, apart from the response and the count of free values. -/
def BlockEffect (i : Instr) (s b : State) : Prop :=
  b = s
  ∨ ((i = .init ∨ i = .wrCmd 0x00000001#32) ∧ b = s.runInit)
  ∨ ((i = .encode ∨ i = .wrCmd 0x00000002#32) ∧ b = s.runEncode)
  ∨ (((∃ op, i = .illegalOp op) ∨ (∃ w, i = .illegalRsvd w) ∨ ∃ w, i = .wrCmd w ∧ 2 < w.toNat) ∧ b = s.illegalCommand)
  ∨ (∃ w, i = .wrStatus w ∧ b = s.setCmdErr (cmdErrAfterWrite w s.cmdErr))
  ∨ (∃ w, i = .wrCfgN w ∧ b = s.setCfgN (low8 w))
  ∨ (∃ w, i = .wrCfgK w ∧ b = s.setCfgK (low8 w))
  ∨ (∃ w, i = .wrCfgPoly w ∧ b = s.setCfgPoly w)
  ∨ (∃ w, i = .wrDataIn w ∧ b = s.setDataIn w)
  ∨ (∃ w, i = .wrTabSel w ∧ b = s.setTabSel (low9 w))

/-- Every next state of exec is one of these effects with a response and a count of free values. -/
theorem exec_next {i : Instr} {s t : State} (h : exec i s = .next t) :
    ∃ b r j, BlockEffect i s b ∧ t = { b with response := r, freeCount := j } := by
  have stored (c : Stored) (h : readStored c s = .next t) :
      ∃ b r j, BlockEffect i s b ∧ t = { b with response := r, freeCount := j } := by
    obtain ⟨v, j, hv⟩ := readStored_completes c s
    rw [hv] at h
    exact ⟨s, .data v, j, .inl rfl, by cases h; rfl⟩
  cases i with
  | nop | rdCmd | rdStatus | rdCfgN | rdCfgK | rdCfgPoly | rdDataIn | rdTabSel | rdParam | rdRsvd | wrCodeOut | wrGen
  | wrTabData | wrParam | wrRsvd => cases h; exact ⟨s, _, s.freeCount, .inl rfl, rfl⟩
  | rdCodeOut => exact stored _ h
  | rdGen => exact stored _ h
  | rdTabData => exact stored _ h
  | init => cases h; exact ⟨s.runInit, _, _, .inr (.inl ⟨.inl rfl, rfl⟩), rfl⟩
  | encode => cases h; exact ⟨s.runEncode, _, _, .inr (.inr (.inl ⟨.inl rfl, rfl⟩)), rfl⟩
  | illegalOp op => cases h; exact ⟨s.illegalCommand, _, _, .inr (.inr (.inr (.inl ⟨.inl ⟨op, rfl⟩, rfl⟩))), rfl⟩
  | illegalRsvd w =>
    cases h; exact ⟨s.illegalCommand, _, _, .inr (.inr (.inr (.inl ⟨.inr (.inl ⟨w, rfl⟩), rfl⟩))), rfl⟩
  | wrCmd w =>
    obtain rfl : (s.runCommand w).respond .written = t := by simpa [exec, execWrCmd, completeWrite] using h
    refine ⟨s.runCommand w, .written, (s.runCommand w).freeCount, ?_, rfl⟩
    rcases runCommand_cases s w with ⟨rfl, e⟩ | ⟨rfl, e⟩ | ⟨rfl, e⟩ | ⟨hw, e⟩
    · exact .inl e
    · exact .inr (.inl ⟨.inr rfl, e⟩)
    · exact .inr (.inr (.inl ⟨.inr rfl, e⟩))
    · exact .inr (.inr (.inr (.inl ⟨.inr (.inr ⟨w, rfl, hw⟩), e⟩)))
  | wrStatus w => cases h; exact ⟨_, _, _, .inr (.inr (.inr (.inr (.inl ⟨w, rfl, rfl⟩)))), rfl⟩
  | wrCfgN w => cases h; exact ⟨_, _, _, .inr (.inr (.inr (.inr (.inr (.inl ⟨w, rfl, rfl⟩))))), rfl⟩
  | wrCfgK w => cases h; exact ⟨_, _, _, .inr (.inr (.inr (.inr (.inr (.inr (.inl ⟨w, rfl, rfl⟩)))))), rfl⟩
  | wrCfgPoly w => cases h; exact ⟨_, _, _, .inr (.inr (.inr (.inr (.inr (.inr (.inr (.inl ⟨w, rfl, rfl⟩))))))), rfl⟩
  | wrDataIn w =>
    cases h; exact ⟨_, _, _, .inr (.inr (.inr (.inr (.inr (.inr (.inr (.inr (.inl ⟨w, rfl, rfl⟩)))))))), rfl⟩
  | wrTabSel w =>
    cases h; exact ⟨_, _, _, .inr (.inr (.inr (.inr (.inr (.inr (.inr (.inr (.inr ⟨w, rfl, rfl⟩)))))))), rfl⟩
  | misaligned we o z => simp [exec, execMisaligned, raiseBusError] at h

end Sys2Proof.Machine
end

