-- ==== Sys2Proof/Laws/PerInstr.lean ====
section
/-! SUPPORT. Laws/PerInstr.lean: per instruction, the descriptor of a bus access has bits [7:6] = 0 (30_encoding.md R85). -/

namespace Sys2Proof.Laws.EncodesCanonically

open Sys2Proof

/-- Whatever bus access encodes `i`, its descriptor has bits [7:6] = 0 (R85). -/
def Statement (i : Instr) : Prop :=
  ∀ size desc data, Sys2Proof.encode i = .bus size desc data → desc.extractLsb' 6 2 = 0

theorem nop : Statement (.nop) := by
  rintro _ _ _ ⟨⟩

theorem init : Statement (.init) := by
  rintro _ _ _ ⟨⟩

theorem encode : Statement (.encode) := by
  rintro _ _ _ ⟨⟩

theorem illegalOp (op : BitVec 4) : Statement (.illegalOp op) := by
  rintro _ _ _ ⟨⟩

theorem illegalRsvd (w : Word) : Statement (.illegalRsvd w) := by
  rintro _ _ _ ⟨⟩

theorem rdCmd : Statement (.rdCmd) := by
  rintro _ _ _ ⟨⟩; rfl

theorem wrCmd (w : Word) : Statement (.wrCmd w) := by
  rintro _ _ _ ⟨⟩; rfl

theorem rdStatus : Statement (.rdStatus) := by
  rintro _ _ _ ⟨⟩; rfl

theorem wrStatus (w : Word) : Statement (.wrStatus w) := by
  rintro _ _ _ ⟨⟩; rfl

theorem rdCfgN : Statement (.rdCfgN) := by
  rintro _ _ _ ⟨⟩; rfl

theorem wrCfgN (w : Word) : Statement (.wrCfgN w) := by
  rintro _ _ _ ⟨⟩; rfl

theorem rdCfgK : Statement (.rdCfgK) := by
  rintro _ _ _ ⟨⟩; rfl

theorem wrCfgK (w : Word) : Statement (.wrCfgK w) := by
  rintro _ _ _ ⟨⟩; rfl

theorem rdCfgPoly : Statement (.rdCfgPoly) := by
  rintro _ _ _ ⟨⟩; rfl

theorem wrCfgPoly (w : Word) : Statement (.wrCfgPoly w) := by
  rintro _ _ _ ⟨⟩; rfl

theorem rdDataIn : Statement (.rdDataIn) := by
  rintro _ _ _ ⟨⟩; rfl

theorem wrDataIn (w : Word) : Statement (.wrDataIn w) := by
  rintro _ _ _ ⟨⟩; rfl

theorem rdCodeOut : Statement (.rdCodeOut) := by
  rintro _ _ _ ⟨⟩; rfl

theorem wrCodeOut (w : Word) : Statement (.wrCodeOut w) := by
  rintro _ _ _ ⟨⟩; rfl

theorem rdGen : Statement (.rdGen) := by
  rintro _ _ _ ⟨⟩; rfl

theorem wrGen (w : Word) : Statement (.wrGen w) := by
  rintro _ _ _ ⟨⟩; rfl

theorem rdTabSel : Statement (.rdTabSel) := by
  rintro _ _ _ ⟨⟩; rfl

theorem wrTabSel (w : Word) : Statement (.wrTabSel w) := by
  rintro _ _ _ ⟨⟩; rfl

theorem rdTabData : Statement (.rdTabData) := by
  rintro _ _ _ ⟨⟩; rfl

theorem wrTabData (w : Word) : Statement (.wrTabData w) := by
  rintro _ _ _ ⟨⟩; rfl

theorem rdParam : Statement (.rdParam) := by
  rintro _ _ _ ⟨⟩; rfl

theorem wrParam (w : Word) : Statement (.wrParam w) := by
  rintro _ _ _ ⟨⟩; rfl

theorem rdRsvd (offset : BitVec 6) : Statement (.rdRsvd offset) := by
  rintro _ _ _ ⟨⟩; exact descriptor_bits_7_6 false offset

theorem wrRsvd (offset : BitVec 6) (w : Word) : Statement (.wrRsvd offset w) := by
  rintro _ _ _ ⟨⟩; exact descriptor_bits_7_6 true offset

theorem misaligned (we : Bool) (offset : BitVec 6) (size : AccessSize) : Statement (.misaligned we offset size) := by
  rintro _ _ _ ⟨⟩; exact descriptor_bits_7_6 we offset

end Sys2Proof.Laws.EncodesCanonically
end

