-- ==== Sys2Proof/Laws/Step.lean ====
section
/-! SUPPORT. Laws/Step.lean: the inversion lemmas of one host access and of one step. -/

namespace Sys2Proof.Machine

open Sys2Proof

/-- An access that answers a next state found reset released, stood in the window and ran its instruction. -/
theorem performAccess_next {a : Access} {s t : State} (h : performAccess a s = .next t) :
    s.inReset = false ∧ a.inWindow s.config = true ∧ exec (decode a.code) s = .next t := by
  unfold performAccess at h
  cases hr : s.inReset
  · cases hw : a.inWindow s.config
    · simp [hr, hw] at h
    · exact ⟨rfl, rfl, by simpa [hr, hw] using h⟩
  · simp [hr] at h

/-- Every next state of a step: idle, a reset edge, or an access that ran its instruction. -/
theorem step_cases {s t : State} (h : step s = .next t) :
    (s.pending = [] ∧ t = s)
    ∨ (∃ rest, s.pending = .assertReset :: rest ∧ t = assertReset (s.setPending rest))
    ∨ (∃ rest, s.pending = .releaseReset :: rest ∧ t = releaseReset (s.setPending rest))
    ∨ (∃ a rest, s.pending = .access a :: rest ∧ s.inReset = false ∧ a.inWindow s.config = true
        ∧ exec (decode a.code) (s.setPending rest) = .next t) := by
  unfold step at h
  cases hp : s.pending with
  | nil => rw [hp] at h; exact .inl ⟨rfl, by simpa [eq_comm] using h⟩
  | cons e rest =>
    rw [hp] at h
    cases e with
    | assertReset => exact .inr (.inl ⟨rest, rfl, by simpa [performEvent, eq_comm] using h⟩)
    | releaseReset => exact .inr (.inr (.inl ⟨rest, rfl, by simpa [performEvent, eq_comm] using h⟩))
    | access a =>
      obtain ⟨hr, hw, hx⟩ := performAccess_next (a := a) (by simpa [performEvent] using h)
      exact .inr (.inr (.inr ⟨a, rest, rfl, by simpa using hr, by simpa using hw, hx⟩))

end Sys2Proof.Machine
end

