-- ==== Sys2Proof/Tests/Slice0.lean ====
section
/-! SUPPORT. Tests/Slice0.lean: smoke tests of WellFormed, decoding by words written out from the spec's encodings, small
vectors of 95_test_vectors.md (the id stands with each test), and a witness for the hypotheses of each statement. Every
expected value is the spec's. -/

namespace Sys2Proof.Tests

open Sys2Proof Sys2Proof.Machine

/-! ## WellFormed: each check refuses an ill-formed term -/

theorem test_wf_illegalOp : (Instr.illegalOp 0x2#4).wellFormed = false ∧ (Instr.illegalOp 0x3#4).wellFormed = true := by
  decide
theorem test_wf_illegalRsvd :
    (Instr.illegalRsvd 0x0000000F#32).wellFormed = false ∧ (Instr.illegalRsvd 0x00000010#32).wellFormed = true := by decide
theorem test_wf_rdRsvd : (Instr.rdRsvd 0x28#6).wellFormed = false ∧ (Instr.rdRsvd 0x2D#6).wellFormed = false
    ∧ (Instr.rdRsvd 0x2C#6).wellFormed = true := by decide
theorem test_wf_wrRsvd : (Instr.wrRsvd 0x24#6 0).wellFormed = false ∧ (Instr.wrRsvd 0x3E#6 0).wellFormed = false
    ∧ (Instr.wrRsvd 0x3C#6 0).wellFormed = true := by decide
theorem test_wf_misaligned : (Instr.misaligned true 0x08#6 .word).wellFormed = false
    ∧ (Instr.misaligned true 0x08#6 .half).wellFormed = true ∧ (Instr.misaligned true 0x09#6 .word).wellFormed = true := by
  decide

/-! ## Decoding: command words of section 5 (30_encoding.md R81, R83) -/

theorem test_decode_nop : decode (.cmd 0b00000000000000000000000000000000#32) = .nop := by decide
theorem test_decode_init : decode (.cmd 0b00000000000000000000000000000001#32) = .init := by decide
theorem test_decode_encode : decode (.cmd 0b00000000000000000000000000000010#32) = .encode := by decide
theorem test_decode_illegalOp : decode (.cmd 0x00000003#32) = .illegalOp 0x3#4
    ∧ decode (.cmd 0x0000000F#32) = .illegalOp 0xF#4 := by decide
theorem test_decode_illegalRsvd : decode (.cmd 0x00000010#32) = .illegalRsvd 0x00000010#32
    ∧ decode (.cmd 0x00000011#32) = .illegalRsvd 0x00000011#32
    ∧ decode (.cmd 0x80000002#32) = .illegalRsvd 0x80000002#32 := by decide

/-! ## Decoding: descriptors of R86; bit 8 is WE, bits 5:0 are the offset -/

theorem test_decode_rdCmd : decode (.bus .word 0b000000000#9 0) = .rdCmd := by decide
theorem test_decode_wrCmd : decode (.bus .word 0b100000000#9 0x1#32) = .wrCmd 0x1#32 := by decide
theorem test_decode_rdStatus : decode (.bus .word 0b000000100#9 0) = .rdStatus := by decide
theorem test_decode_wrStatus : decode (.bus .word 0b100000100#9 0x8#32) = .wrStatus 0x8#32 := by decide
theorem test_decode_rdCfgN : decode (.bus .word 0b000001000#9 0) = .rdCfgN := by decide
theorem test_decode_wrCfgN : decode (.bus .word 0b100001000#9 0x1F#32) = .wrCfgN 0x1F#32 := by decide
theorem test_decode_rdCfgK : decode (.bus .word 0b000001100#9 0) = .rdCfgK := by decide
theorem test_decode_wrCfgK : decode (.bus .word 0b100001100#9 0x15#32) = .wrCfgK 0x15#32 := by decide
theorem test_decode_rdCfgPoly : decode (.bus .word 0b000010000#9 0) = .rdCfgPoly := by decide
theorem test_decode_wrCfgPoly : decode (.bus .word 0b100010000#9 0x25#32) = .wrCfgPoly 0x25#32 := by decide
theorem test_decode_rdDataIn : decode (.bus .word 0b000010100#9 0) = .rdDataIn := by decide
theorem test_decode_wrDataIn : decode (.bus .word 0b100010100#9 0x1#32) = .wrDataIn 0x1#32 := by decide
theorem test_decode_rdCodeOut : decode (.bus .word 0b000011000#9 0) = .rdCodeOut := by decide
theorem test_decode_wrCodeOut : decode (.bus .word 0b100011000#9 0x7#32) = .wrCodeOut 0x7#32 := by decide
theorem test_decode_rdGen : decode (.bus .word 0b000011100#9 0) = .rdGen := by decide
theorem test_decode_wrGen : decode (.bus .word 0b100011100#9 0x7#32) = .wrGen 0x7#32 := by decide
theorem test_decode_rdTabSel : decode (.bus .word 0b000100000#9 0) = .rdTabSel := by decide
theorem test_decode_wrTabSel : decode (.bus .word 0b100100000#9 0x105#32) = .wrTabSel 0x105#32 := by decide
theorem test_decode_rdTabData : decode (.bus .word 0b000100100#9 0) = .rdTabData := by decide
theorem test_decode_wrTabData : decode (.bus .word 0b100100100#9 0x7#32) = .wrTabData 0x7#32 := by decide
theorem test_decode_rdParam : decode (.bus .word 0b000101000#9 0) = .rdParam := by decide
theorem test_decode_wrParam : decode (.bus .word 0b100101000#9 0x7#32) = .wrParam 0x7#32 := by decide
theorem test_decode_rdRsvd : decode (.bus .word 0b000101100#9 0) = .rdRsvd 0x2C#6
    ∧ decode (.bus .word 0b000111100#9 0) = .rdRsvd 0x3C#6 := by decide
theorem test_decode_wrRsvd : decode (.bus .word 0b100110000#9 0x7#32) = .wrRsvd 0x30#6 0x7#32 := by decide
/-- V-A12 to V-A14: a byte write at 0x01, a half read at 0x06, a misaligned word read at 0x05. -/
theorem test_decode_misaligned : decode (.bus .byte 0b100000001#9 0x1#32) = .misaligned true 0x01#6 .byte
    ∧ decode (.bus .half 0b000000110#9 0) = .misaligned false 0x06#6 .half
    ∧ decode (.bus .word 0b000000101#9 0) = .misaligned false 0x05#6 .word := by decide

/-- A number with a bit above the descriptor, or above the command word, is no row. -/
theorem test_decode_rejects : codeOfTableWord 16 0x200 = .error .descriptorTooWide
    ∧ codeOfTableWord 32 0x100000000 = .error .wordTooWide ∧ codeOfTableWord 48 0 = .error .noSuchFormat := by decide

/-! ## Small states -/

/-- Reset, with a staged configuration. -/
def staged (n k : BitVec 8) (poly : Word) : State := { State.reset with cfgN := n, cfgK := k, cfgPoly := poly }

/-- The state INIT leaves. -/
def inited (n k : BitVec 8) (poly : Word) : State := (staged n k poly).runInit

/-- What a step's outcome shows of its next state. -/
def shows {α : Type} (o : Out) (f : State → α) : Option α :=
  match o with
  | .next t => some (f t)
  | .fault _ => none
  | .refused _ => none

/-! ## Polynomials and field arithmetic (sections 2.3, 3.1) -/

theorem test_clmul : clmul 0x25 0x3D = 0x769 := by decide
theorem test_pmod : pmod 0x400003B4 0x769 = 0 ∧ pmod 0x58 0xB = 0 ∧ pmod (2 ^ 7) 0xB = 1 := by decide +kernel
theorem test_gfMul_n7 : gfMul 7 (inited 7 4 0xB).alphaTo (inited 7 4 0xB).indexOf 5 7 = 6
    ∧ gfMul 7 (inited 7 4 0xB).alphaTo (inited 7 4 0xB).indexOf 0 5 = 0 := by decide +kernel
theorem test_gfMul_n31 :
    gfMul 31 (inited 31 21 0x25).alphaTo (inited 31 21 0x25).indexOf 0x1F 0x1F = 0x12 := by decide +kernel
theorem test_conjClass : conjClass 31 3 = [3, 6, 12, 24, 17] ∧ conjClass 15 5 = [5, 10] ∧ conjClass 7 0 = [0] := by
  decide
theorem test_minPoly : minPoly 31 (inited 31 21 0x25).alphaTo (inited 31 21 0x25).indexOf 11 = 0x3B := by decide +kernel

/-! ## Tables (section 2) -/

/-- V-T3. -/
theorem test_tables_n7 :
    (inited 7 4 0xB).alphaTo.take 8
      = [some 1, some 2, some 4, some 3, some 6, some 7, some 5, some 1]
    ∧ (inited 7 4 0xB).indexOf.take 8
      = [some (-1), some 0, some 1, some 3, some 2, some 6, some 4, some 5]
    ∧ (inited 7 4 0xB).alphaTo.drop 8 = List.replicate 24 none := by decide +kernel
/-- V-T12: FIELD_OK = 0 keeps the recurrence values and leaves indexOf at ⊥. -/
theorem test_tables_invalid :
    (inited 15 11 0x12).alphaTo.take 16
      = [some 1, some 2, some 4, some 8, some 2, some 4, some 8, some 2, some 4, some 8, some 2, some 4, some 8, some 2,
         some 4, some 8]
    ∧ (inited 15 11 0x12).indexOf = List.replicate 32 none ∧ (inited 15 11 0x12).fieldOk = false := by decide +kernel
/-- V-T15: m = 6 is above M_MAX; STATUS still shows m. -/
theorem test_tables_m6 : statusWord (inited 63 57 0x43) = 0x00000604 ∧ (inited 63 57 0x43).alphaTo = List.replicate 32 none := by
  decide +kernel

/-! ## Commands -/

theorem test_nop : exec .nop (inited 31 21 0x25) = .next (inited 31 21 0x25) := rfl
/-- V-G21, and the example of R103. -/
theorem test_init_BCH_31_21 : statusWord (inited 31 21 0x25) = 0x000A0507 ∧ (inited 31 21 0x25).gAcc = some 0x769
    ∧ (inited 31 21 0x25).codeOut = some 0 := by decide +kernel
/-- V-G8 (overshoot) and V-G26 (k = 0, the widest generator). -/
theorem test_init_corners : statusWord (inited 7 3 0xB) = 0x00060305 ∧ (inited 7 3 0xB).gAcc = some 0x7F
    ∧ statusWord (inited 31 0 0x25) = 0x001F0507 ∧ (inited 31 0 0x25).gAcc = some 0x80000001 := by decide +kernel
/-- V-E18 and V-E13. -/
theorem test_encode_BCH_31_21 :
    encodeOp (inited 31 21 0x25) 0x000ABCDE = some 0x2AF37B6D
    ∧ encodeOp (inited 31 21 0x25) 0x00100000 = some 0x400003B4 := by decide +kernel
/-- V-E54, V-E57, V-E59: ⊥. -/
theorem test_encode_unconstrained : encodeOp (inited 31 21 0x25) 0x00200000 = none ∧ encodeOp (inited 7 3 0xB) 1 = none
    ∧ encodeOp State.reset 0 = none := by decide +kernel
theorem test_illegalOp : shows (exec (.illegalOp 0x3#4) State.reset) (fun t => (t.cmdErr, statusWord t))
    = some (true, 0x00000008) := by decide
theorem test_illegalRsvd : shows (exec (.illegalRsvd 0x11#32) (staged 7 4 0xB)) (fun t => (t.cmdErr, t.initDone))
    = some (true, false) := by decide

/-! ## Reads (section 6) -/

theorem test_rdCmd : shows (exec .rdCmd (inited 7 4 0xB)) State.response = some (.data 0) := by decide +kernel
/-- V-G4 and P3 line 7. -/
theorem test_rdStatus : shows (exec .rdStatus (inited 7 4 0xB)) State.response = some (.data 0x00030307)
    ∧ shows (exec .rdStatus { inited 15 11 0x1F with cmdErr := true }) State.response = some (.data 0x0000040C) := by
  decide +kernel
theorem test_rdCfgN : shows (exec .rdCfgN (staged 0x1F 0 0)) State.response = some (.data 0x1F) := by decide
theorem test_rdCfgK : shows (exec .rdCfgK (staged 0 21 0)) State.response = some (.data 0x15) := by decide
theorem test_rdCfgPoly : shows (exec .rdCfgPoly (staged 0 0 0x25)) State.response = some (.data 0x25) := by decide
theorem test_rdDataIn : shows (exec .rdDataIn { State.reset with dataIn := 0x80000001 }) State.response
    = some (.data 0x80000001) := by decide
theorem test_rdCodeOut : shows (exec .rdCodeOut State.reset) State.response = some (.data 0) := by decide
theorem test_rdGen : shows (exec .rdGen (inited 15 7 0x13)) State.response = some (.data 0x1D1) := by decide +kernel
/-- V-A5: an UNCONSTRAINED read takes one free value. -/
theorem test_rdGen_free : shows (exec .rdGen State.reset) (fun t => (t.freeCount, t.gAcc)) = some (1, none) := by decide
theorem test_rdTabSel : shows (exec .rdTabSel { State.reset with tabSel := 0x1FF }) State.response
    = some (.data 0x000001FF) := by decide
/-- P2 lines 11 and 13. -/
theorem test_rdTabData : shows (exec .rdTabData { inited 7 4 0xB with tabSel := 0x106 }) State.response = some (.data 4)
    ∧ shows (exec .rdTabData { inited 7 4 0xB with tabSel := 0x100 }) State.response = some (.data 0xFFFFFFFF) := by
  decide +kernel
/-- V-A18 and V-A17: above A.N, above N_MAX. -/
theorem test_rdTabData_free :
    shows (exec .rdTabData { inited 7 4 0xB with tabSel := 0x008 }) State.freeCount = some 1
    ∧ shows (exec .rdTabData { inited 31 21 0x25 with tabSel := 0x120 }) State.freeCount = some 1 := by decide +kernel
theorem test_rdParam : shows (exec .rdParam State.reset) State.response = some (.data 0x00001F05) := by decide
theorem test_rdRsvd : shows (exec (.rdRsvd 0x30#6) State.reset) State.response = some (.data 0) := by decide

/-! ## Writes (section 6) -/

/-- Section 5: 0x80000002 is illegal and performs no ENCODE. -/
theorem test_wrCmd : shows (exec (.wrCmd 0x80000002#32) (inited 7 4 0xB)) (fun t => (t.cmdErr, t.codeOut, t.response))
    = some (true, some 0, .written) := by decide +kernel
/-- V-E1 to V-E9 (d = 0xB), through the write of CMD. -/
theorem test_wrCmd_encode :
    shows (exec (.wrCmd 0x00000002#32) { inited 7 4 0xB with dataIn := 0xB }) (fun t => (t.codeOut, t.response))
    = some (some 0x58, .written) := by decide +kernel
theorem test_wrStatus : shows (exec (.wrStatus 0x00000008#32) { State.reset with cmdErr := true }) State.cmdErr = some false
    ∧ shows (exec (.wrStatus 0xFFFFFFF7#32) { State.reset with cmdErr := true }) State.cmdErr = some true := by decide
/-- V-A7. -/
theorem test_wrCfgN : shows (exec (.wrCfgN 0x0000011F#32) State.reset) State.cfgN = some 0x1F := by decide
theorem test_wrCfgK : shows (exec (.wrCfgK 0x00000215#32) State.reset) State.cfgK = some 0x15 := by decide
theorem test_wrCfgPoly : shows (exec (.wrCfgPoly 0x00000013#32) State.reset) (fun t => (t.cfgPoly, t.aPoly))
    = some (0x13, 0) := by decide
theorem test_wrDataIn : shows (exec (.wrDataIn 0x04030201#32) State.reset) (fun t => (t.dataIn, busLane t.dataIn 0))
    = some (0x04030201, 0x01) := by decide
theorem test_wrCodeOut : shows (exec (.wrCodeOut 0x12345678#32) State.reset) State.codeOut = some (some 0) := by decide
/-- V-A16. -/
theorem test_wrGen : shows (exec (.wrGen 0) (inited 31 21 0x25)) State.gAcc = some (some 0x769) := by decide +kernel
/-- V-A8. -/
theorem test_wrTabSel : shows (exec (.wrTabSel 0xFFFFFFFF#32) State.reset) State.tabSel = some 0x1FF := by decide
theorem test_wrTabData : shows (exec (.wrTabData 0) (inited 7 4 0xB)) (fun t => t.alphaTo[3]?) = some (some (some 3)) := by
  decide +kernel
theorem test_wrParam : shows (exec (.wrParam 0) State.reset) (fun t => paramWord t.config) = some 0x00001F05 := by decide
theorem test_wrRsvd : exec (.wrRsvd 0x3C#6 0xFFFFFFFF#32) State.reset = .next (State.reset.respond .written) := rfl
/-- V-A12. -/
theorem test_misaligned : exec (.misaligned true 0x01#6 .byte) State.reset = .fault (.busError 0x01#6 true true) := rfl

/-! ## The step -/

/-- P1 line 1: WR CFG_N, 31. -/
theorem test_step_access : shows (step (State.reset.setPending [wr Config.spec 0x08#6 31])) (fun t => (t.cfgN, t.pending))
    = some (31, []) := by decide
/-- V-A14 in a window based at 0x1000. -/
theorem test_step_bus_error :
    step ((State.atReset ⟨5, 0x1000⟩).setPending [.access ⟨0x1005, .word, false, 0⟩]) = .fault (.busError 0x05#6 false true) := by
  rfl
theorem test_step_outside :
    step (State.reset.setPending [.access ⟨0x40, .word, false, 0⟩]) = .fault (.outsideWindow 0x40) := rfl
theorem test_step_reset_release :
    shows (step ({ inited 7 4 0xB with inReset := true }.setPending [.releaseReset])) id = some State.reset := by
  decide +kernel
theorem test_fetch_command : shows (step (State.reset.withFetchWord 32 0x00000003)) State.cmdErr = some true := by decide
theorem test_fetch_access : shows (step (State.reset.withFetchWord 16 0x028)) State.response = some (.data 0x00001F05) := by
  decide
theorem test_lanes : wordOfLanes (busLane 0x04030201 0) (busLane 0x04030201 1) (busLane 0x04030201 2) (busLane 0x04030201 3)
    = 0x04030201 := by decide
/-- R88: the expansion of TABRD 1, 3 and of CLRERR. -/
theorem test_pseudo : tabrdLines Config.spec 1 3 = [wr Config.spec 0x20#6 0x103, rd Config.spec 0x24#6]
    ∧ clrerrLines Config.spec = [.access ⟨0x04, .word, true, 8⟩] := by decide

/-! ## Witnesses: the hypotheses of the statements can be met -/

/-- BCH(7,4), ready to encode. -/
def ready : State := inited 7 4 0xB

theorem witness_GenReady : GenReady ready 0xB := by
  unfold GenReady; decide +kernel

/-- DecodeOfEncodeIsIdentity, CommandWordIsEncodedByItsInstruction, OnlyBusErrorsFault, at boundary operands. -/
theorem witness_wellFormed : (Instr.rdRsvd 0x3C#6).wellFormed = true ∧ (Instr.illegalOp 0xF#4).wellFormed = true
    ∧ (Instr.illegalRsvd 0xFFFFFFFF#32).wellFormed = true ∧ (Instr.misaligned true 0x3F#6 .word).wellFormed = true
    ∧ (.eBusAlign ∈ conditionsOf (.misaligned true 0x3F#6 .word) State.reset)
    ∧ (.eCmdIllegal ∈ conditionsOf (.wrCmd 3) State.reset)
    ∧ encode (.illegalOp 0xF#4) = .cmd 0x0000000F#32 := by decide
/-- LegalCommandWords: an illegal word at each end. -/
theorem witness_illegal_words : ¬((0x3#32).extractLsb' 4 28 = 0 ∧ ((0x3#32).extractLsb' 0 4 = 0x0#4
    ∨ (0x3#32).extractLsb' 0 4 = 0x1#4 ∨ (0x3#32).extractLsb' 0 4 = 0x2#4))
    ∧ ¬((0xFFFFFFF0#32).extractLsb' 4 28 = 0 ∧ ((0xFFFFFFF0#32).extractLsb' 0 4 = 0x0#4
    ∨ (0xFFFFFFF0#32).extractLsb' 0 4 = 0x1#4 ∨ (0xFFFFFFF0#32).extractLsb' 0 4 = 0x2#4)) := by decide
/-- AccessDescriptorMap: a reserved and a misaligned offset. -/
theorem witness_descriptor_offsets : (0x3C#6 = 0x2C#6 ∨ 0x3C#6 = 0x30#6 ∨ 0x3C#6 = 0x34#6 ∨ 0x3C#6 = 0x38#6 ∨ 0x3C#6 = 0x3C#6)
    ∧ (0x3F#6).extractLsb' 0 2 ≠ 0 := by decide
/-- StepRunsTheDecodedAccess, at the last byte of the window, and MisalignedAccessIsABusError. -/
theorem witness_access_in_window :
    let s := State.reset.setPending [.access ⟨0x3F, .word, true, 7⟩]
    s.config.wf ∧ s.pending = .access ⟨0x3F, .word, true, 7⟩ :: [] ∧ s.inReset = false ∧ s.config.base ≤ 0x3F
      ∧ 0x3F < s.config.base + 64 ∧ decode (.bus .word (descriptor true (BitVec.ofNat 6 0x3F)) 7) = .misaligned true 0x3F#6 .word
      ∧ (AccessSize.word.bytes ≠ 4 ∨ (0x3F - s.config.base) % 4 ≠ 0) := by decide
/-- FetchedTableWordIsRun, in both formats. -/
theorem witness_fetch : State.reset.config.base % 64 = 0 ∧ decodeTableWord 32 0xFFFFFFFF = some (.illegalRsvd 0xFFFFFFFF#32)
    ∧ decodeTableWord 16 0x13C = some (.wrRsvd 0x3C#6 0) := by decide
/-- ResetInputAndIdleSteps: each of its five cases. -/
theorem witness_queue_heads : State.reset.pending = []
    ∧ (State.reset.setPending [.assertReset]).pending = .assertReset :: []
    ∧ ((State.reset.setInReset true).setPending [.releaseReset]).inReset = true
    ∧ (State.reset.setPending [.releaseReset]).inReset = false
    ∧ ((State.reset.setInReset true).setPending [rd Config.spec 0]).pending = rd Config.spec 0 :: [] := by decide
/-- StepKeepsParametersAndTakesOneEvent and the statements about the steps that change something: each event they name. -/
theorem witness_steps :
    (shows (step (ready.setPending [cmd Config.spec 1])) State.initDone = some true)
    ∧ (shows (step (ready.setPending [cmd Config.spec 2])) State.codeOut = some (some 0))
    ∧ (shows (step (ready.setPending [cmd Config.spec 3])) State.cmdErr = some true)
    ∧ (shows (step ((ready.setCmdErr true).setPending [wr Config.spec 0x04#6 8])) State.cmdErr = some false)
    ∧ ready.config.base % 64 = 0 := by decide +kernel
/-- The events nextIsWrite and nextIsReset name can be pending. -/
theorem witness_nextIsWrite : (ready.setPending [wr Config.spec 0x20#6 0x1FF]).nextIsWrite 0x20#6 0x1FF
    ∧ ((ready.setInReset true).setPending [.releaseReset]).nextIsReset :=
  ⟨⟨[], rfl⟩, rfl, [], rfl⟩
/-- AnomaliesMakeEncodeUnconstrained: each INIT condition occurs, and each ENCODE condition. -/
theorem witness_conditions : (.aFieldInvalid ∈ conditionsOf .init (staged 15 11 0x1F))
    ∧ (.aKGeN ∈ conditionsOf .init (staged 7 7 0xB)) ∧ (.aGenDegree ∈ conditionsOf .init (staged 7 3 0xB))
    ∧ (.aNotInit ∈ conditionsOf .encode State.reset)
    ∧ (.aDataOversize ∈ conditionsOf .encode { State.reset with dataIn := 1 }) ∧ (staged 15 11 0x1F).config.wf := by
  decide +kernel
/-- INIT statements: legal parameters with a valid field, an invalid one, and one outside the range. -/
theorem witness_init : (staged 31 21 0x25).config.wf ∧ (inited 31 21 0x25).fieldOk = true
    ∧ (inited 31 21 0x25).k < (inited 31 21 0x25).n ∧ (inited 7 4 0x13).fieldOk = false ∧ (inited 7 7 0xB).genOk = false
    ∧ (inited 7 3 0xB).genOk = false ∧ (inited 7 3 0xB).gAcc = some 0x7F
    ∧ (1 ≤ deg 0x25 ∧ deg 0x25 ≤ 5 ∧ deg 0x25 ≤ 31 ∧ 31 ≤ 2 ^ 5 - 1)
    ∧ (staged 7 0 0xB).cfgK = 0 ∧ (inited 7 0 0xB).fieldOk = true := by decide +kernel
/-- ENCODE statements: a defined word at the top of its range, an oversized one, the word 0, GEN_OK = 0. -/
theorem witness_encode_words : ({ ready with dataIn := 0xF } : State).dataIn.toNat < 2 ^ ready.k
    ∧ 2 ^ ready.k ≤ ({ ready with dataIn := 0x10 } : State).dataIn.toNat ∧ ready.dataIn = 0 ∧ State.reset.genOk = false
    ∧ (0xF#32).toNat < 2 ^ ready.k ∧ 1 ≤ ready.k := by decide +kernel
/-- EncodeDependsOnlyOnItsOperands: two states that differ in a table and in CFG_N. -/
theorem witness_same_operands : ready.dataIn = { ready with alphaTo := [], cfgN := 9 }.dataIn
    ∧ ready.gAcc = { ready with alphaTo := [], cfgN := 9 }.gAcc ∧ ready ≠ { ready with alphaTo := [], cfgN := 9 } := by
  decide +kernel
/-- Register statements: bit 3 of a STATUS write set and clear, CODE_OUT and GEN with a word and at ⊥. -/
theorem witness_registers : (0x8#32).getLsbD 3 = true ∧ (0xFFFFFFF7#32).getLsbD 3 = false ∧ ready.codeOut = some 0
    ∧ ready.runEncode.codeOut = some 0 ∧ State.reset.runEncode.codeOut = none ∧ ready.gAcc = some 0xB
    ∧ State.reset.gAcc = none ∧ isRead .rdGen = true := by decide +kernel
/-- TabDataReadsTheSelectedEntry: the last index, the first above A.N, an entry at ⊥, an entry with a word. -/
theorem witness_tabData : ¬(2 ^ ready.config.mMax - 1 < 7 ∨ ready.n < 7) ∧ (2 ^ ready.config.mMax - 1 < 8 ∨ ready.n < 8)
    ∧ (inited 7 4 0x13).indexOf[7]? = some (none : Stored) ∧ ready.alphaTo[7]? = some (some (1 : Word)) := by decide +kernel
/-- StagedConfigurationHasNoEffectBeforeInit: ENCODE, and the CMD write next to INIT's word, are not shut out and answer a
next state. -/
theorem witness_staged : exec .encode ready = .next ready.runEncode
    ∧ exec (.wrCmd 0x2#32) ready = .next (ready.runEncode.respond .written) ∧ Instr.wrCmd 0x2#32 ≠ .wrCmd 0x1#32
    ∧ Instr.encode ≠ .init := ⟨rfl, rfl, by decide, by decide⟩
/-- The field behind `ready` is valid. -/
theorem witness_ValidField : ValidField ready := by
  have hentry : ∀ i, i < 7 →
      ready.alphaTo[i]? = some (some (BitVec.ofNat 32 (look ready.alphaTo i)))
        ∧ 1 ≤ (BitVec.ofNat 32 (look ready.alphaTo i) : Word).toNat ∧ (BitVec.ofNat 32 (look ready.alphaTo i) : Word).toNat ≤ 7
        ∧ ready.indexOf[(BitVec.ofNat 32 (look ready.alphaTo i) : Word).toNat]? = some (some (BitVec.ofNat 32 i) : Stored) := by
    decide +kernel
  have hn : ready.n = 7 := by decide +kernel
  have habove : ∀ i, 7 < i → i ≤ 31 → ready.alphaTo[i]? = some (none : Stored) ∧ ready.indexOf[i]? = some (none : Stored) := by
    intro i hlo hhi
    have : ∀ i, i ≤ 31 → 7 < i → ready.alphaTo[i]? = some (none : Stored) ∧ ready.indexOf[i]? = some (none : Stored) := by
      decide +kernel
    exact this i hhi hlo
  refine ⟨by decide +kernel, by decide +kernel, by decide +kernel, by decide +kernel, by decide +kernel, by decide +kernel,
    fun i hi => ⟨_, hn ▸ hentry i (hn ▸ hi)⟩, fun i hlo hhi => habove i (hn ▸ hlo) ?_⟩
  have : ready.nMax = 31 := by decide +kernel
  exact this ▸ hhi
theorem witness_TableInv : TableInv ready :=
  ⟨by decide +kernel, by decide +kernel, by decide +kernel, by decide +kernel, by decide +kernel, fun _ => witness_ValidField,
    fun h => absurd h (by decide +kernel), fun h => absurd h (by decide +kernel)⟩
theorem witness_GenInv : GenInv ready := by
  have hg : ready.gAcc = some 0xB := by decide +kernel
  refine ⟨fun g h => ?_, fun h => absurd (hg ▸ h) (by decide)⟩
  obtain rfl : (0xB : Word) = g := by simpa [hg] using h
  exact ⟨by decide +kernel, by decide +kernel, by decide +kernel, by decide +kernel, by decide +kernel, by decide +kernel,
    fun _ => witness_GenReady⟩
theorem witness_CodeInv : CodeInv ready := by
  have hc : ready.codeOut = some 0 := by decide +kernel
  have hg : ready.gAcc = some 0xB := by decide +kernel
  intro c h
  obtain rfl : (0 : Word) = c := by simpa [hc] using h
  refine ⟨by decide +kernel, fun _ => rfl, fun g _ h' => ?_⟩
  obtain rfl : (0xB : Word) = g := by simpa [hg] using h'
  decide
/-- The invariant statements: a step that answers a next state from a state with all three invariants. -/
theorem witness_invariant_step : TableInv ready ∧ GenInv ready ∧ CodeInv ready ∧ step ready = .next ready :=
  ⟨witness_TableInv, witness_GenInv, witness_CodeInv, rfl⟩
/-- EncodewReadsTheCodeWord. -/
theorem witness_encodew : (ready.setPending (encodewLines ready.config 0xB)).config.wf
    ∧ GenReady (ready.setPending (encodewLines ready.config 0xB)) 0xB ∧ (0xB : Word).toNat < 2 ^ ready.k
    ∧ (ready.setPending (encodewLines ready.config 0xB)).inReset = false := by
  unfold GenReady; decide +kernel

end Sys2Proof.Tests
end

/-! ## What a step does to the parameters and to the queue (00_scope.md, 20_memory.md) -/

namespace Sys2Proof.Machine

open Sys2Proof

section stepInterface

variable (s : State)

@[simp] theorem State.runInit_config : s.runInit.config = s.config := by simp [State.runInit, State.latchConfig]
@[simp] theorem State.runInit_pending : s.runInit.pending = s.pending := by simp [State.runInit, State.latchConfig]

@[simp] theorem State.runEncode_config : s.runEncode.config = s.config := rfl
@[simp] theorem State.runEncode_pending : s.runEncode.pending = s.pending := rfl

@[simp] theorem State.illegalCommand_config : s.illegalCommand.config = s.config := rfl
@[simp] theorem State.illegalCommand_pending : s.illegalCommand.pending = s.pending := rfl

@[simp] theorem assertReset_config : (assertReset s).config = s.config := rfl
@[simp] theorem assertReset_pending : (assertReset s).pending = s.pending := rfl

@[simp] theorem releaseReset_config : (releaseReset s).config = s.config := by
  rcases releaseReset_cases s with ⟨-, e⟩ | ⟨-, e⟩ <;> simp [e]

@[simp] theorem releaseReset_pending : (releaseReset s).pending = s.pending := by
  rcases releaseReset_cases s with ⟨-, e⟩ | ⟨-, e⟩ <;> simp [e]

end stepInterface

/-- No effect on the block writes a parameter (R8) or takes an event of the host. -/
theorem BlockEffect.keeps_config_pending {i : Instr} {s b : State} (h : BlockEffect i s b) :
    b.config = s.config ∧ b.pending = s.pending := by
  rcases h with rfl | ⟨-, rfl⟩ | ⟨-, rfl⟩ | ⟨-, rfl⟩ | ⟨w, -, rfl⟩ | ⟨w, -, rfl⟩ | ⟨w, -, rfl⟩ | ⟨w, -, rfl⟩
    | ⟨w, -, rfl⟩ | ⟨w, -, rfl⟩ <;> simp

/-- An instruction that answers a next state writes no parameter and takes no event: only `step` takes one. -/
theorem exec_keeps_config_pending {i : Instr} {s t : State} (h : exec i s = .next t) :
    t.config = s.config ∧ t.pending = s.pending := by
  obtain ⟨b, r, j, hb, rfl⟩ := exec_next h
  exact hb.keeps_config_pending

/-- Settles O13, by the cases of a step: idle (the tail of an empty queue is empty), a reset edge, or an access, whose
instruction runs on the state with the event already taken. -/
theorem stepKeepsParametersAndTakesOneEvent : Obligations.StepKeepsParametersAndTakesOneEvent := by
  intro s t h
  rcases step_cases h with ⟨hp, rfl⟩ | ⟨rest, hp, rfl⟩ | ⟨rest, hp, rfl⟩ | ⟨a, rest, hp, -, -, hx⟩
  · simp [hp]
  · simp [hp]
  · simp [hp]
  · simpa [hp] using exec_keeps_config_pending hx

end Sys2Proof.Machine

/-! ## What INIT and ENCODE write and leave alone (10_state.md R22 to R35, 40_commands.md R103, R104) -/

namespace Sys2Proof.Machine

open Sys2Proof

section commandFields

variable (s : State)

/-- BuildField is one write of the tables and FIELD_OK (R121, R122, R127). -/
theorem buildField_eq_setField :
    s.buildField = s.setField s.buildField.alphaTo s.buildField.indexOf s.buildField.fieldOk := by
  unfold State.buildField; split <;> rfl

/-- BuildGenerator is one write of g_acc, GDEG and GEN_OK (R144, R149). -/
theorem buildGenerator_eq_setGen :
    s.buildGenerator = s.setGen s.buildGenerator.gAcc s.buildGenerator.gdeg s.buildGenerator.genOk := by
  unfold State.buildGenerator; split <;> rfl

@[simp] theorem State.runInit_cfgN : s.runInit.cfgN = s.cfgN := by simp [State.runInit, State.latchConfig]
@[simp] theorem State.runInit_cfgK : s.runInit.cfgK = s.cfgK := by simp [State.runInit, State.latchConfig]
@[simp] theorem State.runInit_cfgPoly : s.runInit.cfgPoly = s.cfgPoly := by simp [State.runInit, State.latchConfig]
@[simp] theorem State.runInit_dataIn : s.runInit.dataIn = s.dataIn := by simp [State.runInit, State.latchConfig]
@[simp] theorem State.runInit_codeOut : s.runInit.codeOut = some 0 := by simp [State.runInit]
@[simp] theorem State.runInit_tabSel : s.runInit.tabSel = s.tabSel := by simp [State.runInit, State.latchConfig]
@[simp] theorem State.runInit_aN : s.runInit.aN = s.cfgN.setWidth 32 := by simp [State.runInit, State.latchConfig]
@[simp] theorem State.runInit_aK : s.runInit.aK = s.cfgK.setWidth 32 := by simp [State.runInit, State.latchConfig]
@[simp] theorem State.runInit_aPoly : s.runInit.aPoly = s.cfgPoly := by simp [State.runInit, State.latchConfig]
@[simp] theorem State.runInit_initDone : s.runInit.initDone = true := by simp [State.runInit]
@[simp] theorem State.runInit_cmdErr : s.runInit.cmdErr = s.cmdErr := by simp [State.runInit, State.latchConfig]

/-- INIT leaves the tables BuildField has built from the latched configuration. -/
theorem State.runInit_alphaTo : s.runInit.alphaTo = s.latchConfig.buildField.alphaTo := by simp [State.runInit]
theorem State.runInit_indexOf : s.runInit.indexOf = s.latchConfig.buildField.indexOf := by simp [State.runInit]
theorem State.runInit_fieldOk : s.runInit.fieldOk = s.latchConfig.buildField.fieldOk := by simp [State.runInit]

/-- What INIT writes; every other field keeps its value (R103, R230). -/
theorem State.runInit_frame :
    s.runInit = { s with
      aN := s.runInit.aN, aK := s.runInit.aK, aPoly := s.runInit.aPoly, alphaTo := s.runInit.alphaTo,
      indexOf := s.runInit.indexOf, fieldOk := s.runInit.fieldOk, gAcc := s.runInit.gAcc, gdeg := s.runInit.gdeg,
      genOk := s.runInit.genOk, codeOut := s.runInit.codeOut, initDone := s.runInit.initDone } := by
  unfold State.runInit
  rw [buildGenerator_eq_setGen, buildField_eq_setField]
  rfl

end commandFields

/-- Settles O19: INIT is its latch, two stages that each write their own fields, and the writes of CODE_OUT and
INIT_DONE. -/
theorem initLatchesAndFrames : Obligations.InitLatchesAndFrames := by
  intro s
  refine ⟨s.runInit, rfl, ?_, ?_, ?_, ?_, ?_, ?_⟩
  · exact s.runInit_aN
  · exact s.runInit_aK
  · exact s.runInit_aPoly
  · exact s.runInit_codeOut
  · exact s.runInit_initDone
  · exact s.runInit_frame

/-! ## Which host event is behind an effect on the block (30_encoding.md R85, 20_memory.md R69) -/

/-- The instruction of a write encodes to that write. -/
theorem encode_decodeWrite (o : BitVec 6) (w : Word) : encode (decodeWrite o w) = writeCode (descriptor true o) w := by
  unfold decodeWrite
  repeat' split
  all_goals subst_vars; rfl

/-- The instruction of a read encodes to that read. -/
theorem encode_decodeRead : ∀ o : BitVec 6, encode (decodeRead o) = readCode (descriptor false o) := by
  decide

/-- An aligned 32-bit access is the code of the instruction it decodes to: nothing of it is dropped (R85). -/
theorem encode_decode_code {a : Access} (hgood : badAccess a.offset a.size = false) : encode (decode a.code) = a.code := by
  obtain ⟨addr, z, we, data⟩ := a
  have hz : z = .word := by cases z <;> simp_all [badAccess]
  subst hz
  cases we with
  | false => simpa [Access.code, decode, decodeBus, hgood, readCode] using encode_decodeRead _
  | true => simpa [Access.code, decode, decodeBus, hgood, writeCode] using encode_decodeWrite _ _

/-- An access that answers a next state has the right size and alignment (R204). -/
theorem badAccess_of_next {a : Access} {s t : State} (h : exec (decode a.code) s = .next t) :
    badAccess a.offset a.size = false := by
  by_contra hbad
  have hd : decode a.code = .misaligned a.we a.offset a.size := by simp [Access.code, decode, decodeBus, hbad]
  rw [hd] at h
  cases h

/-- The access that a window holds at BASE + offset: BASE is a multiple of 64 (R60). -/
theorem Access.addr_eq {c : Config} {a : Access} (hb : c.base % 64 = 0) (hw : a.inWindow c = true) :
    a.addr = c.base + a.offset.toNat := by
  simp only [Access.inWindow, Bool.and_eq_true, decide_eq_true_eq] at hw
  simp only [Access.offset, BitVec.toNat_ofNat]
  omega

/-- A pending access whose code is the write of `w` to `o` is that write (R85, R86). -/
theorem nextIsWrite_of_code {s : State} {a : Access} {rest : List HostEvent} {o : BitVec 6} {w : Word}
    (hb : s.config.base % 64 = 0) (hp : s.pending = .access a :: rest) (hw : a.inWindow s.config = true)
    (hc : a.code = writeCode (descriptor true o) w) : s.nextIsWrite o w := by
  have haddr := a.addr_eq hb hw
  obtain ⟨addr, z, we, data⟩ := a
  obtain ⟨hz, hdesc, hdata⟩ := Code.bus.inj hc
  have hwe : we = true := by simpa using congrArg descWrite hdesc
  have ho : Access.offset ⟨addr, z, we, data⟩ = o := by simpa using congrArg descOffset hdesc
  simp only at hz hwe haddr
  subst hwe hz
  have hdata : data = w := hdata
  exact ⟨rest, by rw [hp, haddr, ho, hdata]⟩

/-- What a step from `s` makes of the block, `u` being `s` with the event taken from the queue: nothing, the effect of a
write of the window, or the reset values. The write or the reset edge it takes is the next one pending in `s`. -/
inductive StepEffect (s u : State) : State → Prop
  | none : StepEffect s u u
  | init (h : s.nextIsWrite 0x00#6 0x00000001#32) : StepEffect s u u.runInit
  | encode (h : s.nextIsWrite 0x00#6 0x00000002#32) : StepEffect s u u.runEncode
  | illegal (w : Word) (h : s.nextIsWrite 0x00#6 w) (hw : 2 < w.toNat) : StepEffect s u u.illegalCommand
  | status (w : Word) (h : s.nextIsWrite 0x04#6 w) : StepEffect s u (u.setCmdErr (cmdErrAfterWrite w u.cmdErr))
  | cfgN (w : Word) (h : s.nextIsWrite 0x08#6 w) : StepEffect s u (u.setCfgN (low8 w))
  | cfgK (w : Word) (h : s.nextIsWrite 0x0C#6 w) : StepEffect s u (u.setCfgK (low8 w))
  | cfgPoly (w : Word) (h : s.nextIsWrite 0x10#6 w) : StepEffect s u (u.setCfgPoly w)
  | dataIn (w : Word) (h : s.nextIsWrite 0x14#6 w) : StepEffect s u (u.setDataIn w)
  | tabSel (w : Word) (h : s.nextIsWrite 0x20#6 w) : StepEffect s u (u.setTabSel (low9 w))
  | reset (h : s.nextIsReset) : StepEffect s u u.toReset

/-- The effect of an access that answers a next state: a bus access runs a command only through the write of CMD. -/
theorem BlockEffect.stepEffect {s u b : State} {a : Access} {rest : List HostEvent} (hb : s.config.base % 64 = 0)
    (hp : s.pending = .access a :: rest) (hw : a.inWindow s.config = true) (hcode : encode (decode a.code) = a.code)
    (h : BlockEffect (decode a.code) u b) : StepEffect s u b := by
  have hwrite {i : Instr} {o : BitVec 6} {w : Word} (hi : decode a.code = i)
      (he : encode i = writeCode (descriptor true o) w) : s.nextIsWrite o w :=
    nextIsWrite_of_code hb hp hw (by rw [← hcode, hi, he])
  have hbus {i : Instr} {w : Word} (hi : decode a.code = i) (he : encode i = .cmd w) : False := by
    rw [hi, he] at hcode
    cases hcode
  rcases h with rfl | ⟨hi | hi, rfl⟩ | ⟨hi | hi, rfl⟩ | ⟨⟨op, hi⟩ | ⟨w, hi⟩ | ⟨w, hi, h2⟩, rfl⟩ | ⟨w, hi, rfl⟩ | ⟨w, hi, rfl⟩
    | ⟨w, hi, rfl⟩ | ⟨w, hi, rfl⟩ | ⟨w, hi, rfl⟩ | ⟨w, hi, rfl⟩
  · exact .none
  · exact (hbus hi rfl).elim
  · exact .init (hwrite hi rfl)
  · exact (hbus hi rfl).elim
  · exact .encode (hwrite hi rfl)
  · exact (hbus hi rfl).elim
  · exact (hbus hi rfl).elim
  · exact .illegal w (hwrite hi rfl) h2
  · exact .status w (hwrite hi rfl)
  · exact .cfgN w (hwrite hi rfl)
  · exact .cfgK w (hwrite hi rfl)
  · exact .cfgPoly w (hwrite hi rfl)
  · exact .dataIn w (hwrite hi rfl)
  · exact .tabSel w (hwrite hi rfl)

/-- Every next state of a step is one of these effects, with a reset level, a response and a count of free values. -/
theorem step_effect {s t : State} (hb : s.config.base % 64 = 0) (h : step s = .next t) :
    ∃ q b l r j, StepEffect s (s.setPending q) b ∧ t = { b with inReset := l, response := r, freeCount := j } := by
  rcases step_cases h with ⟨-, rfl⟩ | ⟨rest, -, rfl⟩ | ⟨rest, hp, rfl⟩ | ⟨a, rest, hp, -, hw, hx⟩
  · exact ⟨_, _, _, _, _, .none, rfl⟩
  · exact ⟨rest, _, true, _, _, .none, rfl⟩
  · rcases releaseReset_cases (s.setPending rest) with ⟨hr, e⟩ | ⟨-, e⟩
    · exact ⟨rest, _, _, _, _, .reset ⟨by simpa using hr, rest, hp⟩, e⟩
    · exact ⟨rest, _, _, _, _, .none, e⟩
  · obtain ⟨b, r, j, hbe, rfl⟩ := exec_next hx
    exact ⟨rest, b, _, r, j, hbe.stepEffect hb hp hw (encode_decode_code (badAccess_of_next hx)), rfl⟩

/-! ## What changes what (10_state.md R22 to R30, R235) -/

/-- Settles O51, by the effects of a step: INIT and the reset edge, or a write of other fields. -/
theorem builtStateChangesOnlyAtInitAndReset : Obligations.BuiltStateChangesOnlyAtInitAndReset := by
  intro s t hb h
  obtain ⟨q, b, l, r, j, he, rfl⟩ := step_effect hb h
  cases he with
  | init hw => exact .inl hw
  | reset hr => exact .inr (.inl hr)
  | none | encode _ | illegal _ _ _ | status _ _ | cfgN _ _ | cfgK _ _ | cfgPoly _ _ | dataIn _ _ | tabSel _ _ =>
    exact .inr (.inr ⟨rfl, rfl, rfl, rfl, rfl, rfl, rfl, rfl, rfl, rfl⟩)

/-- Settles O52, by the effects of a step. -/
theorem codeOutChangesOnlyAtCommandsAndReset : Obligations.CodeOutChangesOnlyAtCommandsAndReset := by
  intro s t hb h
  obtain ⟨q, b, l, r, j, he, rfl⟩ := step_effect hb h
  cases he with
  | init hw => exact .inl hw
  | encode hw => exact .inr (.inl hw)
  | reset hr => exact .inr (.inr (.inl hr))
  | none | illegal _ _ _ | status _ _ | cfgN _ _ | cfgK _ _ | cfgPoly _ _ | dataIn _ _ | tabSel _ _ =>
    exact .inr (.inr (.inr rfl))

theorem cmdErrAfterWrite_of_bit {w : Word} (h : w.getLsbD 3 = true) (old : Bool) :
    cmdErrAfterWrite w old = false := if_pos h

theorem cmdErrAfterWrite_of_clear {w : Word} (h : w.getLsbD 3 = false) (old : Bool) :
    cmdErrAfterWrite w old = old := if_neg (Bool.eq_false_iff.1 h)

/-- Settles O53, by the effects of a step; a write of STATUS acts by its bit 3. -/
theorem cmdErrChangesOnlyAsStated : Obligations.CmdErrChangesOnlyAsStated := by
  intro s t hb h
  obtain ⟨q, b, l, r, j, he, rfl⟩ := step_effect hb h
  cases he with
  | illegal w hw h2 => exact .inl ⟨w, hw, h2, rfl⟩
  | status w hw =>
    cases hbit : w.getLsbD 3 with
    | true => exact .inr (.inl ⟨w, hw, hbit, cmdErrAfterWrite_of_bit hbit _⟩)
    | false => exact .inr (.inr (.inr (cmdErrAfterWrite_of_clear hbit _)))
  | reset hr => exact .inr (.inr (.inl hr))
  | init _ => exact .inr (.inr (.inr (by simp)))
  | none | encode _ | cfgN _ _ | cfgK _ _ | cfgPoly _ _ | dataIn _ _ | tabSel _ _ => exact .inr (.inr (.inr rfl))

/-- Settles O54, by the effects of a step: each of the five registers has one write of its own. -/
theorem registersChangeOnlyAtTheirWrite : Obligations.RegistersChangeOnlyAtTheirWrite := by
  intro s t hb h
  obtain ⟨q, b, l, r, j, he, rfl⟩ := step_effect hb h
  cases he with
  | reset hr => exact .inl hr
  | cfgN w hw => exact .inr ⟨.inr ⟨w, hw, rfl⟩, .inl rfl, .inl rfl, .inl rfl, .inl rfl⟩
  | cfgK w hw => exact .inr ⟨.inl rfl, .inr ⟨w, hw, rfl⟩, .inl rfl, .inl rfl, .inl rfl⟩
  | cfgPoly w hw => exact .inr ⟨.inl rfl, .inl rfl, .inr ⟨w, hw, rfl⟩, .inl rfl, .inl rfl⟩
  | dataIn w hw => exact .inr ⟨.inl rfl, .inl rfl, .inl rfl, .inr ⟨w, hw, rfl⟩, .inl rfl⟩
  | tabSel w hw => exact .inr ⟨.inl rfl, .inl rfl, .inl rfl, .inl rfl, .inr ⟨w, hw, rfl⟩⟩
  | init _ => exact .inr (by simp)
  | none | encode _ | illegal _ _ _ | status _ _ => exact .inr ⟨.inl rfl, .inl rfl, .inl rfl, .inl rfl, .inl rfl⟩

/-! ## The staged configuration (10_state.md R29, R234) -/

/-- The state with other staged values. -/
def State.restage (s : State) (n k : BitVec 8) (poly : Word) : State := { s with cfgN := n, cfgK := k, cfgPoly := poly }

/-- An illegal word runs R105 whatever the state. -/
theorem runCommand_illegal (s : State) {w : Word} (hw : 2 < w.toNat) : s.runCommand w = s.illegalCommand := by
  rcases runCommand_cases s w with ⟨rfl, -⟩ | ⟨rfl, -⟩ | ⟨rfl, -⟩ | ⟨-, e⟩
  · simp at hw
  · simp at hw
  · simp at hw
  · exact e

/-- Only the word of INIT reads the staged values (R103). -/
theorem runCommand_restage (s : State) (n k : BitVec 8) (poly : Word) {w : Word} (hw : w ≠ 0x00000001#32) :
    (s.restage n k poly).runCommand w = (s.runCommand w).restage n k poly := by
  rcases runCommand_cases s w with ⟨rfl, -⟩ | ⟨rfl, -⟩ | ⟨rfl, -⟩ | ⟨h2, -⟩
  · rfl
  · exact absurd rfl hw
  · rfl
  · rw [runCommand_illegal _ h2, runCommand_illegal _ h2]; rfl

/-- A read of a storage element does not see the staged values. -/
theorem readStored_restage {c : Stored} {s t : State} (n k : BitVec 8) (poly : Word) (h : readStored c s = .next t) :
    readStored c (s.restage n k poly) = .next (t.restage n k poly) := by
  cases c <;> cases h <;> rfl

/-- Settles O55, by the instructions: the storage reads, the command words but INIT's, and the others by their arm. -/
theorem stagedConfigurationHasNoEffectBeforeInit : Obligations.StagedConfigurationHasNoEffectBeforeInit := by
  intro i s t n k poly hinit hwr hn hk hpoly hcfg h
  change exec i (s.restage n k poly) = .next (t.restage n k poly)
  cases i with
  | init => exact absurd rfl hinit
  | rdCfgN => exact absurd rfl hn
  | rdCfgK => exact absurd rfl hk
  | rdCfgPoly => exact absurd rfl hpoly
  | wrCfgN w => exact absurd rfl (hcfg w).1
  | wrCfgK w => exact absurd rfl (hcfg w).2.1
  | wrCfgPoly w => exact absurd rfl (hcfg w).2.2
  | rdCodeOut => exact readStored_restage n k poly h
  | rdGen => exact readStored_restage n k poly h
  | rdTabData => exact readStored_restage n k poly h
  | wrCmd w =>
    obtain rfl := completeWrite_next.1 h
    exact completeWrite_next.2 (by rw [runCommand_restage s n k poly (fun e => hwr (e ▸ rfl))]; rfl)
  | nop | encode | illegalOp | illegalRsvd | rdCmd | rdStatus | wrStatus | rdDataIn | wrDataIn | wrCodeOut | wrGen
  | rdTabSel | wrTabSel | wrTabData | rdParam | wrParam | rdRsvd | wrRsvd => cases h; rfl
  | misaligned we o z => cases h

end Sys2Proof.Machine

/-! ## The tables INIT leaves (41_field_tables.md R121 to R125, R128) -/

namespace Sys2Proof.Machine

open Sys2Proof

/-- In each of the twelve fields the n powers of α are nonzero and all different (R125, R128). -/
theorem validFields_powers : ∀ f ∈ validFields,
    0 ∉ (List.range f.2.1).map (alphaAt f.1 f.2.2) ∧ ((List.range f.2.1).map (alphaAt f.1 f.2.2)).Nodup := by
  decide +kernel

/-- The powers of α below n are nonzero. -/
theorem alphaAt_pos {m n poly i : Nat} (h : (m, n, poly) ∈ validFields) (hi : i < n) : 0 < alphaAt m poly i := by
  have h0 := (validFields_powers _ h).1
  simp only [List.mem_map, List.mem_range, not_exists, not_and] at h0
  exact Nat.pos_of_ne_zero (h0 i hi)

/-- The powers of α below n are all different. -/
theorem alphaAt_inj {m n poly i j : Nat} (h : (m, n, poly) ∈ validFields) (hi : i < n) (hj : j < n)
    (hij : alphaAt m poly i = alphaAt m poly j) : i = j :=
  List.inj_on_of_nodup_map (validFields_powers _ h).2 (List.mem_range.2 hi) (List.mem_range.2 hj) hij

/-- An entry that no power of α names keeps its value. -/
theorem fillIndex_getElem?_of_ne (alpha t : List Stored) {x : Nat} :
    ∀ n, (∀ i, i < n → look alpha i ≠ x) → (fillIndex alpha n t)[x]? = t[x]?
  | 0, _ => rfl
  | n + 1, h => by
    rw [fillIndex, List.getElem?_set_ne (h n n.lt_succ_self)]
    exact fillIndex_getElem?_of_ne alpha t n fun i hi => h i (Nat.lt_succ_of_lt hi)

/-- When the powers differ, the entry of the i-th power is i (R122). -/
theorem fillIndex_getElem?_look {alpha t : List Stored} :
    ∀ n, (∀ i j, i < n → j < n → look alpha i = look alpha j → i = j) →
      ∀ i, i < n → look alpha i < t.length →
        (fillIndex alpha n t)[look alpha i]? = some (some (BitVec.ofNat 32 i))
  | n + 1, hinj, i, hi, hlt => by
    rw [fillIndex]
    rcases Nat.lt_succ_iff_lt_or_eq.1 hi with hin | rfl
    · have hne : look alpha n ≠ look alpha i := fun e =>
        (Nat.ne_of_lt hin) (hinj n i n.lt_succ_self hi e).symm
      rw [List.getElem?_set_ne hne]
      exact fillIndex_getElem?_look n (fun a b ha hb => hinj a b (Nat.lt_succ_of_lt ha) (Nat.lt_succ_of_lt hb)) i hin hlt
    · exact List.getElem?_set_self (by simpa using hlt)

/-- A word in the filled table stood there before or is an exponent below n. -/
theorem fillIndex_entry {alpha t : List Stored} {x : Nat} {w : Word} :
    ∀ n, (fillIndex alpha n t)[x]? = some (some w) → t[x]? = some (some w) ∨ ∃ i, i < n ∧ w = BitVec.ofNat 32 i
  | 0, h => .inl h
  | n + 1, h => by
    rw [fillIndex, List.getElem?_set] at h
    split at h
    · split at h
      · exact .inr ⟨n, n.lt_succ_self, by simpa [eq_comm] using h⟩
      · cases h
    · rcases fillIndex_entry n h with ht | ⟨i, hi, e⟩
      · exact .inl ht
      · exact .inr ⟨i, Nat.lt_succ_of_lt hi, e⟩

/-- A blank table holds no word. -/
theorem blankTable_ne_word (c : Config) (i : Nat) (w : Word) : (blankTable c)[i]? ≠ some (some w) := by
  simp [blankTable, List.getElem?_replicate]

/-- A word of alphaTo is a value of the recurrence (R121). -/
theorem alphaTable_entry {c : Config} {m n poly i : Nat} {w : Word}
    (h : (alphaTable c m n poly)[i]? = some (some w)) : w = BitVec.ofNat 32 (alphaAt m poly i) := by
  have hi : i ≤ c.nMax := by
    have := (List.getElem?_eq_some_iff.1 h).1
    rw [alphaTable_length] at this
    omega
  rw [alphaTable_getElem? c m n poly hi] at h
  split at h
  · simpa [eq_comm] using h
  · cases h

/-- A word of indexOf is the sentinel or an exponent below n (R122, R123). -/
theorem indexTable_entry {c : Config} {n x : Nat} {alpha : List Stored} {w : Word}
    (h : (indexTable c n alpha)[x]? = some (some w)) : w = -1 ∨ ∃ i, i < n ∧ w = BitVec.ofNat 32 i := by
  rw [indexTable, List.getElem?_set] at h
  split at h
  · split at h
    · exact .inl (by simpa [logOfZero, eq_comm] using h)
    · cases h
  · exact .inr ((fillIndex_entry n h).resolve_left (blankTable_ne_word c x w))

/-- Where INIT has latched the configuration, the cases of BuildField speak of the state it leaves. -/
theorem runInit_tables (s : State) :
    (s.runInit.fieldOk = false ∧ s.runInit.alphaTo = blankTable s.config ∧ s.runInit.indexOf = blankTable s.config)
    ∨ (fieldInRange s.config s.runInit.aM s.runInit.n = true
      ∧ s.runInit.alphaTo = alphaTable s.config s.runInit.aM s.runInit.n s.runInit.aPoly.toNat
      ∧ ((s.runInit.fieldOk = false ∧ s.runInit.indexOf = blankTable s.config)
        ∨ (s.runInit.fieldOk = true ∧ fieldOkFlag s.config s.runInit.aM s.runInit.n s.runInit.alphaTo = true
          ∧ s.runInit.indexOf = indexTable s.config s.runInit.n s.runInit.alphaTo))) := by
  have hM : s.latchConfig.aM = s.runInit.aM := by simp [State.aM, State.latchConfig]
  have hn : s.latchConfig.n = s.runInit.n := by simp [State.n, State.latchConfig]
  have hpoly : s.latchConfig.aPoly = s.runInit.aPoly := by simp [State.latchConfig]
  have hconf : s.latchConfig.config = s.config := rfl
  have h := buildField_cases s.latchConfig
  rw [hM, hn, hpoly, hconf] at h
  rw [s.runInit_fieldOk, s.runInit_alphaTo, s.runInit_indexOf]
  rcases h with ⟨-, e⟩ | ⟨hr, -, e⟩ | ⟨hr, hf, e⟩
  · exact .inl (by simp [e])
  · exact .inr ⟨hr, by simp [e], .inl (by simp [e])⟩
  · exact .inr ⟨hr, by simp [e], .inr ⟨by simp [e], by simpa [e] using hf, by simp [e]⟩⟩

theorem State.runInit_n_lt (s : State) : s.runInit.n < 256 := by
  have := s.cfgN.isLt
  simp [State.n]; omega

theorem State.runInit_k_lt (s : State) : s.runInit.k < 256 := by
  have := s.cfgK.isLt
  simp [State.k]; omega

/-- Settles O24, by the recurrence's bound and the exponents BuildIndex writes. -/
theorem tableEntryRanges : Obligations.TableEntryRanges := by
  intro s _
  refine ⟨s.runInit, rfl, fun i a ha => ?_, fun i j hj => ?_⟩
  · rcases runInit_tables s with ⟨-, e, -⟩ | ⟨hr, e, -⟩
    · exact absurd (e ▸ ha) (blankTable_ne_word _ _ _)
    · obtain ⟨hm, -⟩ := (fieldInRange_iff _ _ _).1 hr
      have hlt := alphaAt_lt hm rfl i
      obtain rfl := alphaTable_entry (e ▸ ha)
      have hle := Nat.mod_le (alphaAt s.runInit.aM s.runInit.aPoly.toNat i) (2 ^ 32)
      rw [BitVec.toNat_ofNat]
      omega
  · have key (h : s.runInit.indexOf = blankTable s.config) : False := blankTable_ne_word _ _ _ (h ▸ hj)
    rcases runInit_tables s with ⟨-, -, e⟩ | ⟨-, -, ⟨-, e⟩ | ⟨-, -, e⟩⟩
    · exact (key e).elim
    · exact (key e).elim
    · rcases indexTable_entry (e ▸ hj) with h | ⟨k, hk, rfl⟩
      · exact .inl h
      · have : (BitVec.ofNat 32 k).toNat ≤ k := Nat.mod_le _ _
        exact .inr (by omega)

/-! ## A valid field behind FIELD_OK = 1 (R127, R128) -/

section validTables

variable {c : Config} {m n poly : Nat} (hc : c.wf) (hdeg : deg poly = m)
  (hf : fieldOkFlag c m n (alphaTable c m n poly) = true)

/-- What FIELD_OK = 1 says of the parameters and of the last power (R127). -/
theorem fieldOkFlag_spec {alpha : List Stored} (h : fieldOkFlag c m n alpha = true) :
    1 ≤ m ∧ m ≤ c.mMax ∧ n ≤ c.nMax ∧ n = 2 ^ m - 1 ∧ look alpha n = 1 := by
  simp only [fieldOkFlag, Bool.and_eq_true, decide_eq_true_eq, fieldInRange_iff] at h
  obtain ⟨⟨⟨⟨hm, hmax, -, hn⟩, hord⟩, hone⟩, -⟩ := h
  exact ⟨hm, hmax, hn, hord, hone⟩

include hc hdeg hf

/-- The builder looks up the recurrence's values. -/
theorem look_valid {i : Nat} (hi : i ≤ n) : look (alphaTable c m n poly) i = alphaAt m poly i := by
  obtain ⟨hm, hmax, hn, -, -⟩ := fieldOkFlag_spec hf
  exact look_alphaTable hm (by have := hc.2.1; omega) hdeg hi hn

/-- Every power is a nonzero element up to n. -/
theorem alphaAt_range {i : Nat} (hi : i < n) : 1 ≤ alphaAt m poly i ∧ alphaAt m poly i ≤ n := by
  obtain ⟨hm, -, -, hord, -⟩ := fieldOkFlag_spec hf
  have hlt := alphaAt_lt hm hdeg i
  exact ⟨alphaAt_pos (fieldOkFlag_mem_validFields hc hdeg hf) hi, by omega⟩

/-- The entry of the i-th power is i: the tables are inverse (R128). -/
theorem indexTable_alphaAt {i : Nat} (hi : i < n) :
    (indexTable c n (alphaTable c m n poly))[alphaAt m poly i]? = some (some (BitVec.ofNat 32 i)) := by
  obtain ⟨-, -, hn, -, -⟩ := fieldOkFlag_spec hf
  have hr := alphaAt_range hc hdeg hf hi
  have hlook {j : Nat} (hj : j < n) := look_valid hc hdeg hf (Nat.le_of_lt hj)
  rw [indexTable, List.getElem?_set_ne (by omega), ← hlook hi]
  refine fillIndex_getElem?_look n (fun a b ha hb hab => ?_) i hi ?_
  · rw [hlook ha, hlook hb] at hab
    exact alphaAt_inj (fieldOkFlag_mem_validFields hc hdeg hf) ha hb hab
  · rw [hlook hi, blankTable_length]; omega

/-- The entries above n hold ⊥ (R124). -/
theorem indexTable_above {i : Nat} (hlo : n < i) (hhi : i ≤ c.nMax) :
    (indexTable c n (alphaTable c m n poly))[i]? = some none := by
  rw [indexTable, List.getElem?_set_ne (by omega), fillIndex_getElem?_of_ne, blankTable_getElem? c hhi]
  intro j hj
  have := alphaAt_range hc hdeg hf hj
  rw [look_valid hc hdeg hf (Nat.le_of_lt hj)]
  omega

/-- The entry of a power is its value, unwrapped. -/
theorem alphaTable_getElem?_valid {i : Nat} (hi : i ≤ n) :
    (alphaTable c m n poly)[i]? = some (some (BitVec.ofNat 32 (look (alphaTable c m n poly) i))) := by
  obtain ⟨-, -, hn, -, -⟩ := fieldOkFlag_spec hf
  rw [look_valid hc hdeg hf hi, alphaTable_getElem? c m n poly (Nat.le_trans hi hn), if_pos hi]

end validTables

/-- A configuration that passes R127 leaves a valid field (R123, R124, R128). -/
theorem validField_runInit {s : State} (hc : s.config.wf) (hok : s.runInit.fieldOk = true) : ValidField s.runInit := by
  rcases runInit_tables s with ⟨h, -⟩ | ⟨-, hal, ⟨h, -⟩ | ⟨-, hf, hix⟩⟩
  · simp [hok] at h
  · simp [hok] at h
  rw [hal] at hf hix
  obtain ⟨hm, hmax, hn, hord, hone⟩ := fieldOkFlag_spec hf
  have hdeg : deg s.runInit.aPoly.toNat = s.runInit.aM := rfl
  have hget {i : Nat} (hi : i ≤ s.runInit.n) := alphaTable_getElem?_valid hc hdeg hf hi
  have hlook {i : Nat} (hi : i ≤ s.runInit.n) := look_valid hc hdeg hf hi
  refine ⟨hm, by simpa using hmax, hord, ?_, ?_, ?_, fun i hi => ?_, fun i hlo hhi => ?_⟩
  · have h0 : alphaAt s.runInit.aM s.runInit.aPoly.toNat 0 = 1 := if_pos hm
    rw [hal, hget (Nat.zero_le _), hlook (Nat.zero_le _), h0]; rfl
  · rw [hal, hget (Nat.le_refl _), hone]; rfl
  · rw [hix]
    exact List.getElem?_set_self (by simp)
  · have hr := alphaAt_range hc hdeg hf hi
    have hval : (BitVec.ofNat 32 (look s.runInit.alphaTo i) : Word).toNat
        = alphaAt s.runInit.aM s.runInit.aPoly.toNat i := by
      have := s.runInit_n_lt
      rw [hal, hlook (Nat.le_of_lt hi), BitVec.toNat_ofNat]
      omega
    refine ⟨_, by rw [hal, hget (Nat.le_of_lt hi)], ?_⟩
    rw [← hal, hval, hix]
    exact ⟨hr.1, hr.2, indexTable_alphaAt hc hdeg hf hi⟩
  · have hhi : i ≤ s.config.nMax := by simpa [State.nMax] using hhi
    rw [hal, hix, alphaTable_getElem? _ _ _ _ hhi, if_neg (Nat.not_le.2 hlo)]
    exact ⟨rfl, indexTable_above hc hdeg hf hlo hhi⟩

/-! ## The invariant of the tables (R29, R38, R129, R231) -/

/-- INIT leaves indexOf blank when the field is not valid (R129). -/
theorem runInit_indexOf_of_invalid {s : State} (h : s.runInit.fieldOk = false) :
    s.runInit.indexOf = blankTable s.config := by
  rcases runInit_tables s with ⟨-, -, e⟩ | ⟨-, -, ⟨-, e⟩ | ⟨hok, -⟩⟩
  · exact e
  · exact e
  · simp [h] at hok

/-- Both tables have N_MAX + 1 entries after INIT. -/
theorem runInit_table_lengths (s : State) :
    s.runInit.alphaTo.length = s.config.nMax + 1 ∧ s.runInit.indexOf.length = s.config.nMax + 1 := by
  rcases runInit_tables s with ⟨-, ea, ei⟩ | ⟨-, ea, ⟨-, ei⟩ | ⟨-, -, ei⟩⟩ <;> simp [ea, ei]

/-- INIT establishes TableInv from legal parameters alone. -/
theorem tableInv_runInit {s : State} (hc : s.config.wf) : TableInv s.runInit := by
  have hnMax : s.runInit.nMax = s.config.nMax := by simp [State.nMax]
  obtain ⟨hal, hix⟩ := runInit_table_lengths s
  refine ⟨by simpa using hc, by rw [hal, hnMax], by rw [hix, hnMax], s.runInit_n_lt, s.runInit_k_lt,
    validField_runInit hc, fun hok i hi => ?_, fun hdone => ?_⟩
  · rw [runInit_indexOf_of_invalid hok]
    exact blankTable_getElem? _ (hnMax ▸ hi)
  · simp at hdone

/-- The reset values meet TableInv. -/
theorem tableInv_toReset {s : State} (hc : s.config.wf) : TableInv s.toReset := by
  refine ⟨hc, ?_, ?_, Nat.zero_lt_succ _, Nat.zero_lt_succ _, fun hok => ?_, fun _ i hi => ?_, fun _ => ⟨rfl, rfl, rfl⟩⟩
  · simp [State.nMax]
  · simp [State.nMax]
  · cases hok
  · exact blankTable_getElem? s.config hi

/-- Settles O57, by the effects of a step: INIT and the reset edge establish the invariant, no other effect writes a field
it speaks of. -/
theorem stepKeepsTableInv : Obligations.StepKeepsTableInv := by
  intro s t hinv h
  have hc : s.config.wf := hinv.1
  obtain ⟨q, b, l, r, j, he, rfl⟩ := step_effect hc.2.2 h
  have hb : TableInv b := by
    cases he with
    | init _ => exact tableInv_runInit hc
    | reset _ => exact tableInv_toReset hc
    | none | encode _ | illegal _ _ _ | status _ _ | cfgN _ _ | cfgK _ _ | cfgPoly _ _ | dataIn _ _ | tabSel _ _ =>
      exact hinv
  exact hb

end Sys2Proof.Machine

/-! ## The code word (43_encoder.md R160, R161, R163, R164) -/

namespace Sys2Proof.Machine

open Sys2Proof

/-- One data bit of EncodeOp, bit by bit: the shifted register, and g's bits below p on feedback. -/
theorem testBit_encodeStep (d p g i r l : Nat) :
    (encodeStep d p g i r).testBit l
      = (decide (l < p) && ((decide (1 ≤ l) && r.testBit (l - 1)) ^^ ((d.testBit i ^^ r.testBit (p - 1)) && g.testBit l))) := by
  unfold encodeStep
  cases d.testBit i ^^ r.testBit (p - 1) <;> by_cases hl : l < p <;> simp [Nat.testBit_xor, hl]

/-- One step of long division, bit by bit. -/
theorem testBit_pmodStep (g i a j : Nat) :
    (pmodStep g i a).testBit j = (a.testBit j ^^ (a.testBit i && decide (i - deg g ≤ j) && g.testBit (j - (i - deg g)))) := by
  unfold pmodStep
  cases a.testBit i <;> simp [Nat.testBit_xor]

/-- The dividend before data bit i: the register above the data bits still to come. -/
def dividend (d p i r : Nat) : Nat := (r <<< i) ^^^ ((d % 2 ^ i) <<< p)

theorem testBit_dividend (d p i r j : Nat) :
    (dividend d p i r).testBit j
      = ((decide (i ≤ j) && r.testBit (j - i)) ^^ (decide (p ≤ j) && (decide (j - p < i) && d.testBit (j - p)))) := by
  simp [dividend, Nat.testBit_xor, Nat.testBit_shiftLeft, Nat.testBit_mod_two_pow]

/-- One data bit of EncodeOp is one step of long division of the dividend, at bit p + i. -/
theorem pmodStep_eq_encodeStep {d p g i r : Nat} (hp : 1 ≤ p) (hdeg : deg g = p) (htop : g.testBit p = true)
    (hr : r < 2 ^ p) :
    pmodStep g (p + i) (dividend d p (i + 1) r) = dividend d p i (encodeStep d p g i r) := by
  have hrhi {l : Nat} (h : p ≤ l) : r.testBit l = false :=
    Nat.testBit_lt_two_pow (Nat.lt_of_lt_of_le hr (Nat.pow_le_pow_right (by decide) h))
  have hghi {l : Nat} (h : p < l) : g.testBit l = false := testBit_above_deg (hdeg ▸ h)
  have hfb : (dividend d p (i + 1) r).testBit (p + i) = (d.testBit i ^^ r.testBit (p - 1)) := by
    have h1 : p + i - (i + 1) = p - 1 := by omega
    have h2 : i + 1 ≤ p + i := by omega
    rw [testBit_dividend, h1]
    simp [h2, Bool.xor_comm]
  apply Nat.eq_of_testBit_eq
  intro j
  have hsub : p + i - deg g = i := by omega
  rw [testBit_pmodStep, hfb, hsub, testBit_dividend, testBit_dividend, testBit_encodeStep]
  by_cases hij : i ≤ j
  · obtain ⟨l, rfl⟩ := Nat.exists_eq_add_of_le hij
    have h1 : i + l - (i + 1) = l - 1 := by omega
    rw [h1, Nat.add_sub_cancel_left]
    have hle : i + 1 ≤ i + l ↔ 1 ≤ l := by omega
    rcases Nat.lt_trichotomy l p with hl | rfl | hl
    · have hd : p ≤ i + l → i + l - p < i + 1 ∧ i + l - p < i := by omega
      by_cases hpl : p ≤ i + l
      · simp [hle, hl, hpl, hd hpl, Bool.xor_comm, Bool.xor_left_comm]
      · simp [hle, hl, hpl]
    · simp [hp, htop]
    · have h2 : ¬ i + l - p < i + 1 := by omega
      have h3 : ¬ i + l - p < i := by omega
      simp [hrhi (show p ≤ l - 1 by omega), hghi hl, Nat.not_lt_of_lt hl, h2, h3]
  · have h1 : ¬ i + 1 ≤ j := by omega
    have h2 : j - p < i + 1 := by omega
    have h3 : j - p < i := by omega
    simp [hij, h1, h2, h3]

/-- The data bits of a code word stand below bit n = k + p. -/
theorem shiftLeft_lt_two_pow_add {d k : Nat} (p : Nat) (hd : d < 2 ^ k) : d <<< p < 2 ^ (k + p) := by
  rw [Nat.shiftLeft_eq, Nat.pow_add]
  exact Nat.mul_lt_mul_of_pos_right hd (Nat.two_pow_pos p)

/-- A code word has n = k + p bits (R163). -/
theorem codeWord_lt {d k : Nat} (p g : Nat) (hd : d < 2 ^ k) : codeWord d k p g < 2 ^ (k + p) := by
  rw [codeWord_eq_xor]
  exact Nat.xor_lt_two_pow (shiftLeft_lt_two_pow_add p hd) (Nat.lt_of_lt_of_le
    (encodeLoop_lt d p g k 0 (Nat.two_pow_pos p)) (Nat.pow_le_pow_right (by decide) (Nat.le_add_left p k)))

/-- Zero is its own remainder. -/
theorem pmod_zero_left (g : Nat) : pmod 0 g = 0 := pmodFrom_of_lt g _ 0 (Nat.two_pow_pos _)

section systematicCode

variable {d k p g : Nat} (hp : 1 ≤ p) (hdeg : deg g = p)

include hp hdeg

/-- The division of a mask of k + p bits may start at bit p + k − 1. -/
theorem pmod_eq_pmodFrom {a : Nat} (ha : a < 2 ^ (k + p)) : pmod a g = pmodFrom g k a := by
  refine (pmodFrom_eq_pmod g a k ?_).symm
  rw [hdeg]
  by_cases h0 : a = 0
  · subst h0
    simp [deg]; omega
  · have : deg a < k + p := (Nat.log2_lt h0).2 ha
    omega

variable (htop : g.testBit p = true)

include htop

/-- The loop of EncodeOp is the long division of its dividend. -/
theorem encodeLoop_eq_pmodFrom (d : Nat) :
    ∀ i r, r < 2 ^ p → encodeLoop d p g i r = pmodFrom g i (dividend d p i r)
  | 0, r, _ => by simp [encodeLoop, pmodFrom, dividend, Nat.mod_one]
  | i + 1, r, hr => by
    rw [encodeLoop, encodeLoop_eq_pmodFrom d i _ (encodeStep_lt d p g i r), pmodFrom, hdeg,
      pmodStep_eq_encodeStep hp hdeg htop hr]

/-- The remainder register after the loop is pmod(d << p, g) (R161). -/
theorem encodeLoop_eq_pmod (hd : d < 2 ^ k) : encodeLoop d p g k 0 = pmod (d <<< p) g := by
  rw [pmod_eq_pmodFrom hp hdeg (shiftLeft_lt_two_pow_add p hd),
    encodeLoop_eq_pmodFrom hp hdeg htop d k 0 (Nat.two_pow_pos p)]
  simp [dividend, Nat.mod_eq_of_lt hd]

/-- A code word is a multiple of the generator: its remainder is that of `d << p`, twice (R164). -/
theorem pmod_codeWord (hd : d < 2 ^ k) : pmod (codeWord d k p g) g = 0 := by
  have hrem : encodeLoop d p g k 0 = pmodFrom g k (d <<< p) := by
    rw [encodeLoop_eq_pmod hp hdeg htop hd, pmod_eq_pmodFrom hp hdeg (shiftLeft_lt_two_pow_add p hd)]
  have hlt : encodeLoop d p g k 0 < 2 ^ deg g := hdeg ▸ encodeLoop_lt d p g k 0 (Nat.two_pow_pos p)
  rw [pmod_eq_pmodFrom hp hdeg (codeWord_lt p g hd), codeWord_eq_xor, pmodFrom_xor, pmodFrom_of_lt g k _ hlt, ← hrem,
    Nat.xor_self]

end systematicCode

/-- What EncodeOp found when it answers a word (R160, R162). -/
theorem encodeOp_eq_some {s : State} {d c : Word} (h : encodeOp s d = some c) :
    s.genOk = true ∧ d.toNat < 2 ^ s.k
      ∧ ∃ g, s.gAcc = some g ∧ c = BitVec.ofNat 32 (codeWord d.toNat s.k s.p g.toNat) := by
  unfold encodeOp at h
  split at h
  · obtain ⟨hok, hd⟩ := ‹s.genOk = true ∧ d.toNat < 2 ^ s.k›
    obtain ⟨g, hg, rfl⟩ := Option.map_eq_some_iff.1 h
    exact ⟨hok, hd, g, hg, rfl⟩
  · cases h

/-! ## The invariant of CODE_OUT (R27, R164, R236) -/

/-- CODE_OUT at 0 is a code word of every code. -/
theorem codeInv_of_zero {s : State} (h : s.codeOut = some 0) : CodeInv s := by
  intro c hc
  obtain rfl : 0 = c := Option.some.inj (h.symm.trans hc)
  exact ⟨Nat.two_pow_pos _, fun _ => rfl, fun g _ _ => pmod_zero_left g.toNat⟩

/-- ENCODE with a ready generator leaves a code word or ⊥ (R163, R164). -/
theorem codeInv_runEncode {s : State} (hinv : GenInv s) : CodeInv s.runEncode := by
  intro c hc
  obtain ⟨hok, hd, g, hg, rfl⟩ := encodeOp_eq_some (s := s) (d := s.dataIn) hc
  obtain ⟨-, -, -, -, -, -, hready⟩ := hinv.1 g hg
  obtain ⟨-, -, hkn, hn, hdeg, -, htop⟩ := hready hok
  have hp : 1 ≤ s.p := Nat.sub_pos_of_lt hkn
  have hsum : s.k + s.p = s.n := Nat.add_sub_cancel' (Nat.le_of_lt hkn)
  have hlt : codeWord s.dataIn.toNat s.k s.p g.toNat < 2 ^ s.n := hsum ▸ codeWord_lt s.p g.toNat hd
  have hval : (BitVec.ofNat 32 (codeWord s.dataIn.toNat s.k s.p g.toNat) : Word).toNat
      = codeWord s.dataIn.toNat s.k s.p g.toNat :=
    Nat.mod_eq_of_lt (Nat.lt_trans hlt (Nat.pow_lt_pow_right (by decide) (Nat.lt_succ_of_le hn)))
  refine ⟨by rw [hval]; exact hlt, fun h => ?_, fun g' _ hg' => ?_⟩
  · exact absurd (hok.symm.trans h) (by decide)
  · obtain rfl : g = g' := Option.some.inj (hg.symm.trans hg')
    rw [hval]
    exact pmod_codeWord hp hdeg htop hd

/-- Settles O59, by the effects of a step: INIT and the reset edge clear CODE_OUT, ENCODE leaves a multiple of the
generator or ⊥, no other effect writes a field the invariant speaks of. -/
theorem stepKeepsCodeInv : Obligations.StepKeepsCodeInv := by
  intro s t htab hgen hcode h
  obtain ⟨q, b, l, r, j, he, rfl⟩ := step_effect htab.1.2.2 h
  have hb : CodeInv b := by
    cases he with
    | init _ => exact codeInv_of_zero (State.runInit_codeOut _)
    | reset _ => exact codeInv_of_zero (State.toReset_codeOut _)
    | encode _ => exact codeInv_runEncode (s := s.setPending q) hgen
    | none | illegal _ _ _ | status _ _ | cfgN _ _ | cfgK _ _ | cfgPoly _ _ | dataIn _ _ | tabSel _ _ => exact hcode
  exact hb

/-! ## The state right after reset (10_state.md R38, R231) -/

/-- Nothing is built at reset. -/
theorem genInv_toReset (s : State) : GenInv s.toReset :=
  ⟨fun _ h => (nomatch h), fun _ => ⟨rfl, rfl⟩⟩

/-- Settles O56: State.reset is a fixed point of the reset edge, whose values meet the invariants. -/
theorem resetMeetsTheInvariants : Obligations.ResetMeetsTheInvariants := by
  have hreset : State.reset.toReset = State.reset := rfl
  rw [Obligations.ResetMeetsTheInvariants, ← hreset]
  exact ⟨tableInv_toReset (by decide), genInv_toReset _, codeInv_of_zero rfl⟩

/-- Every flag and field of STATUS is 0 at reset (R22, R38). -/
theorem statusWord_atReset (c : Config) : statusWord (State.atReset c) = 0 := by
  simp [statusWord, State.atReset, State.aM, deg, flagWord]

/-- Settles O9, element by element. -/
theorem resetValues : Obligations.ResetValues := by
  refine ⟨fun c => ?_, rfl, rfl⟩
  have hm : (State.atReset c).aM = 0 := rfl
  refine ⟨?_, ⟨rfl, rfl, rfl, rfl, hm, rfl⟩, rfl, rfl, rfl, rfl, rfl, rfl, rfl, rfl, rfl, rfl, rfl, rfl, rfl, rfl,
    fun _ => rfl⟩
  exact readWord_next.2 (by rw [statusWord_atReset]; rfl)

end Sys2Proof.Machine

/-! ## Repeating a command (20_memory.md R68) -/

namespace Sys2Proof.Machine

open Sys2Proof

section repeatedCommand

variable (s : State)

/-- `s` with everything INIT writes taken from `t`. -/
def State.withBuilt (s t : State) : State :=
  { s with
    aN := t.aN, aK := t.aK, aPoly := t.aPoly, alphaTo := t.alphaTo, indexOf := t.indexOf, fieldOk := t.fieldOk,
    gAcc := t.gAcc, gdeg := t.gdeg, genOk := t.genOk, codeOut := t.codeOut, initDone := t.initDone }

/-- BuildField overwrites the tables and FIELD_OK without reading them (R121, R122, R127). -/
theorem buildField_setField (al ix : List Stored) (ok : Bool) : (s.setField al ix ok).buildField = s.buildField := rfl

/-- BuildField neither reads nor writes the generator, CODE_OUT and INIT_DONE. -/
theorem buildField_comm (g : Stored) (d : BitVec 5) (gok : Bool) (c : Stored) (b : Bool) :
    (((s.setGen g d gok).setCodeOut c).setInitDone b).buildField
      = ((s.buildField.setGen g d gok).setCodeOut c).setInitDone b := by
  unfold State.buildField
  by_cases h : fieldInRange s.config s.aM s.n = true
  · exact (if_pos h).trans (by rw [if_pos h]; rfl)
  · exact (if_neg h).trans (by rw [if_neg h]; rfl)

/-- BuildGenerator overwrites the generator without reading it, and neither reads nor writes CODE_OUT and INIT_DONE
(R144). -/
theorem buildGenerator_overwrites (g : Stored) (d : BitVec 5) (gok : Bool) (c : Stored) (b : Bool) :
    (((s.setGen g d gok).setCodeOut c).setInitDone b).buildGenerator
      = (s.buildGenerator.setCodeOut c).setInitDone b := by
  rcases buildGenerator_cases s with ⟨h, e⟩ | ⟨h, e⟩ <;> rw [e]
  · exact if_pos h
  · exact if_neg h

/-- INIT reads nothing that it writes. -/
theorem runInit_withBuilt (t : State) : (s.withBuilt t).runInit = s.runInit := by
  have hlatch : (s.withBuilt t).latchConfig = (((s.latchConfig.setGen t.gAcc t.gdeg t.genOk).setCodeOut
      t.codeOut).setInitDone t.initDone).setField t.alphaTo t.indexOf t.fieldOk := rfl
  unfold State.runInit
  rw [hlatch, buildField_setField, buildField_comm, buildGenerator_overwrites]
  rfl

/-- A second INIT builds from the same CFG registers (R68). -/
theorem runInit_runInit : s.runInit.runInit = s.runInit :=
  calc s.runInit.runInit = (s.withBuilt s.runInit).runInit := congrArg State.runInit s.runInit_frame
    _ = s.runInit := runInit_withBuilt s s.runInit

/-- ENCODE does not read the CODE_OUT it writes (R104, R167). -/
theorem runEncode_runEncode : s.runEncode.runEncode = s.runEncode := rfl

end repeatedCommand

/-- Settles O37: neither command reads what it writes. -/
theorem commandsAreIdempotent : Obligations.CommandsAreIdempotent := by
  intro s
  refine ⟨⟨s.runInit, rfl, ?_⟩, s.runEncode, rfl, ?_⟩
  · exact congrArg Host.Outcome.next (runInit_runInit s)
  · exact congrArg Host.Outcome.next (runEncode_runEncode s)

/-! ## Reads (20_memory.md R67) -/

/-- Settles O49, by the reads: those of a storage element, which can hold ⊥, and those of a word. -/
theorem readsHaveNoSideEffect : Obligations.ReadsHaveNoSideEffect := by
  intro i s hi
  cases i with
  | rdCodeOut => exact readStored_completes s.codeOut s
  | rdGen => exact readStored_completes s.gAcc s
  | rdTabData => exact readStored_completes (selectedEntry s) s
  | rdCmd | rdStatus | rdCfgN | rdCfgK | rdCfgPoly | rdDataIn | rdTabSel | rdParam | rdRsvd =>
    exact ⟨_, s.freeCount, rfl⟩
  | nop | init | encode | illegalOp | illegalRsvd | wrCmd | wrStatus | wrCfgN | wrCfgK | wrCfgPoly | wrDataIn
  | wrCodeOut | wrGen | wrTabSel | wrTabData | wrParam | wrRsvd | misaligned => cases hi

/-! ## The next access (20_memory.md R60 to R62, R69) -/

/-- The window is BASE to BASE + 0x3F (R60). -/
theorem Access.inWindow_iff {c : Config} {a : Access} :
    a.inWindow c = true ↔ c.base ≤ a.addr ∧ a.addr < c.base + 64 := by
  simp [Access.inWindow]

/-- A bad access is one of a wrong size or a misaligned address (R62). -/
theorem badAccess_iff {a : Access} : badAccess a.offset a.size = true ↔ a.size ≠ .word ∨ a.addr % 4 ≠ 0 := by
  have hmod : a.offset.toNat % 4 = a.addr % 4 := by simp only [Access.offset, BitVec.toNat_ofNat]; omega
  simp [badAccess, hmod]

/-- A step with an access pending performs it. -/
theorem step_access {s : State} {a : Access} {rest : List HostEvent} (hp : s.pending = .access a :: rest) :
    step s = performAccess a (s.setPending rest) := by
  simp [step, hp, performEvent]

/-- Out of reset, an access of the window runs its instruction (R69, R85). -/
theorem step_access_in_window {s : State} {a : Access} {rest : List HostEvent} (hp : s.pending = .access a :: rest)
    (hr : s.inReset = false) (hw : a.inWindow s.config = true) :
    step s = exec (decode a.code) (s.setPending rest) := by
  simp [step_access hp, performAccess, hr, hw]

/-- Settles O7: the access's code is its size, descriptor and data word. -/
theorem stepRunsTheDecodedAccess : Obligations.StepRunsTheDecodedAccess := by
  rintro s a rest _ hp hr hlo hhi rfl
  exact step_access_in_window hp hr (Access.inWindow_iff.2 ⟨hlo, hhi⟩)

/-! ## The bus error and the other stops (20_memory.md R62, 44_register_access.md R204) -/

/-- A bad access is the bus error of its offset, whatever the state (R204). -/
theorem exec_of_badAccess {a : Access} (hbad : badAccess a.offset a.size = true) (s : State) :
    exec (decode a.code) s = raiseBusError a.offset a.size := by
  have hd : decode a.code = .misaligned a.we a.offset a.size := by simp [Access.code, decode, decodeBus, hbad]
  rw [hd]
  rfl

/-- Each of the twelve entries of the map's read column is a read (R86). -/
theorem isRead_decodeRead : ∀ o : BitVec 6, isRead (decodeRead o) = true := by
  decide

/-- Every aligned 32-bit write completes (R86). -/
theorem exec_decodeWrite_completes (o : BitVec 6) (w : Word) (s : State) : ∃ t, exec (decodeWrite o w) s = .next t := by
  unfold decodeWrite
  iterate 11 refine iteInduction (motive := fun i => ∃ t, exec i s = .next t) (fun _ => ⟨_, rfl⟩) fun _ => ?_
  exact ⟨_, rfl⟩

/-- Every aligned 32-bit access completes, whatever the state and the data (R106, R210). -/
theorem exec_completes_of_not_badAccess {a : Access} (hgood : badAccess a.offset a.size = false) (s : State) :
    ∃ t, exec (decode a.code) s = .next t := by
  cases hwe : a.we with
  | true =>
    have hd : decode a.code = decodeWrite a.offset a.data := by simp [Access.code, decode, decodeBus, hgood, hwe]
    exact hd ▸ exec_decodeWrite_completes _ _ s
  | false =>
    have hd : decode a.code = decodeRead a.offset := by simp [Access.code, decode, decodeBus, hgood, hwe]
    obtain ⟨v, j, h⟩ := readsHaveNoSideEffect _ s (isRead_decodeRead a.offset)
    exact ⟨_, hd ▸ h⟩

/-- The instruction of an access faults exactly when the access is bad. -/
theorem exec_decode_fault_iff {a : Access} {s : State} :
    (∃ f, exec (decode a.code) s = .fault f) ↔ badAccess a.offset a.size = true := by
  cases h : badAccess a.offset a.size with
  | true => simpa [exec_of_badAccess h] using raiseBusError_fault a.offset a.size
  | false =>
    obtain ⟨t, ht⟩ := exec_completes_of_not_badAccess h s
    simp [ht]

/-- What stops an access: an asserted reset, an address outside the window, or a bad access. -/
theorem performAccess_fault_iff {a : Access} {s : State} :
    (∃ f, performAccess a s = .fault f) ↔
      s.inReset = true ∨ a.inWindow s.config = false ∨ badAccess a.offset a.size = true := by
  unfold performAccess
  cases hr : s.inReset with
  | true => simp
  | false =>
    cases hw : a.inWindow s.config with
    | false => simp
    | true => simpa using exec_decode_fault_iff

/-- Only an access stops a step: idling and the reset edges have a next state. -/
theorem step_fault_iff {s : State} :
    (∃ f, step s = .fault f) ↔
      ∃ a rest, s.pending = .access a :: rest ∧ ∃ f, performAccess a (s.setPending rest) = .fault f := by
  cases hp : s.pending with
  | nil => simp [step, hp]
  | cons e rest =>
    cases e with
    | access a => simp [step_access hp]
    | assertReset => simp [step, hp, performEvent]
    | releaseReset => simp [step, hp, performEvent]

/-- Settles O12: only an access stops a step, and it stops at one of three tests. -/
theorem stepFaultsExactly : Obligations.StepFaultsExactly := by
  intro s
  rw [step_fault_iff]
  refine exists_congr fun a => exists_congr fun rest => and_congr_right fun _ => ?_
  have hout : a.inWindow s.config = false ↔ a.addr < s.config.base ∨ s.config.base + 64 ≤ a.addr := by
    rw [← Bool.not_eq_true, Access.inWindow_iff]
    omega
  simp [performAccess_fault_iff, badAccess_iff, hout, or_assoc]

/-- 4 bytes is the one size that is served (R61). -/
theorem bytes_eq_four_iff (z : AccessSize) : z.bytes = 4 ↔ z = .word := by
  cases z <;> decide

/-- Settles O48: in the window the offset is addr − BASE, so a bad access is bad by it. -/
theorem misalignedAccessIsABusError : Obligations.MisalignedAccessIsABusError := by
  refine ⟨fun _ _ _ _ => rfl, fun s a rest hc hp hr hlo hhi hbad => ?_⟩
  obtain ⟨-, -, hb⟩ := hc
  have hw : a.inWindow s.config = true := Access.inWindow_iff.2 ⟨hlo, hhi⟩
  have hoff : a.addr - s.config.base = a.offset.toNat := by have := a.addr_eq hb hw; omega
  rw [hoff] at hbad ⊢
  have hbad : badAccess a.offset a.size = true := by simpa [badAccess, bytes_eq_four_iff] using hbad
  rw [step_access_in_window hp hr hw, exec_of_badAccess hbad]
  simp [raiseBusError, bytes_eq_four_iff]

end Sys2Proof.Machine

/-! ## The two formats, decoded and encoded (30_encoding.md R80 to R86) -/

namespace Sys2Proof

/-- The reserved offsets, one by one (20_memory.md R63). -/
theorem reservedOffset_iff : ∀ o : BitVec 6,
    reservedOffset o = true ↔ o = 0x2C#6 ∨ o = 0x30#6 ∨ o = 0x34#6 ∨ o = 0x38#6 ∨ o = 0x3C#6 := by
  decide

/-- A 32-bit access of a reserved offset is aligned (R63). -/
theorem badAccess_of_reserved : ∀ o : BitVec 6, reservedOffset o = true → badAccess o .word = false := by
  decide

/-- The read column of the map at a reserved offset (R86). -/
theorem decodeRead_of_reserved : ∀ o : BitVec 6, reservedOffset o = true → decodeRead o = .rdRsvd o := by
  decide

/-- The write column of the map at a reserved offset (R86). -/
theorem decodeWrite_of_reserved {o : BitVec 6} (h : reservedOffset o = true) (w : Word) :
    decodeWrite o w = .wrRsvd o w := by
  rcases (reservedOffset_iff o).1 h with rfl | rfl | rfl | rfl | rfl <;> rfl

/-- An aligned 32-bit read goes to the read column of the map; its data word is ignored (R85). -/
theorem decode_read {o : BitVec 6} (hgood : badAccess o .word = false) (w : Word) :
    decode (.bus .word (descriptor false o) w) = decodeRead o := by
  simp [decode, decodeBus, hgood]

/-- An aligned 32-bit write goes to the write column of the map (R85). -/
theorem decode_write {o : BitVec 6} (hgood : badAccess o .word = false) (w : Word) :
    decode (.bus .word (descriptor true o) w) = decodeWrite o w := by
  simp [decode, decodeBus, hgood]

/-- The misaligned rows are checked before the map (R85). -/
theorem decode_badAccess {o : BitVec 6} {size : AccessSize} (hbad : badAccess o size = true) (we : Bool) (w : Word) :
    decode (.bus size (descriptor we o) w) = .misaligned we o size := by
  simp [decode, decodeBus, hbad]

/-- A reserved OP stands for itself (R83). -/
theorem decodeCommand_of_reservedOp :
    ∀ op : BitVec 4, 3 ≤ op.toNat → decodeCommand (op.setWidth 32) = .illegalOp op := by
  decide

/-- A word with RSVD ≠ 0 is kept whole (R83). -/
theorem decodeCommand_of_rsvd {w : Word} (h : 16 ≤ w.toNat) : decodeCommand w = .illegalRsvd w := by
  have hr : cmdRsvd w ≠ 0#28 := mt (cmdRsvd_eq_zero_iff w).1 (Nat.not_lt.2 h)
  simp [decodeCommand, hr]

/-- Settles O1, by the instructions: a named register's code is evaluated, the forms with an operand of their own go
through the field that carries it. -/
theorem decodeOfEncodeIsIdentity : Obligations.DecodeOfEncodeIsIdentity := by
  intro i hi
  cases i with
  | illegalOp op => exact decodeCommand_of_reservedOp op (of_decide_eq_true hi)
  | illegalRsvd w => exact decodeCommand_of_rsvd (of_decide_eq_true hi)
  | rdRsvd o => exact (decode_read (badAccess_of_reserved o hi) 0).trans (decodeRead_of_reserved o hi)
  | wrRsvd o w => exact (decode_write (badAccess_of_reserved o hi) w).trans (decodeWrite_of_reserved hi w)
  | misaligned we o size => exact decode_badAccess hi we 0
  | nop | init | encode | rdCmd | wrCmd | rdStatus | wrStatus | rdCfgN | wrCfgN | rdCfgK | wrCfgK | rdCfgPoly | wrCfgPoly
  | rdDataIn | wrDataIn | rdCodeOut | wrCodeOut | rdGen | wrGen | rdTabSel | wrTabSel | rdTabData | wrTabData | rdParam
  | wrParam => rfl

/-- A command word's instruction has operands that the word carries (R83). -/
theorem decodeCommand_wellFormed (w : Word) : (decodeCommand w).wellFormed = true := by
  rcases decodeCommand_cases w with ⟨h, e⟩ | ⟨-, e⟩ | ⟨-, e⟩ | ⟨-, e⟩ | ⟨-, hop, -, e⟩
  · have hw : 16 ≤ w.toNat := Nat.not_lt.1 (mt (cmdRsvd_eq_zero_iff w).2 h)
    simpa [e, Instr.wellFormed] using hw
  · simp [e, Instr.wellFormed]
  · simp [e, Instr.wellFormed]
  · simp [e, Instr.wellFormed]
  · simpa [e, Instr.wellFormed] using hop

/-- An aligned read of no named register is one of a reserved offset (R86). -/
theorem decodeRead_wellFormed :
    ∀ o : BitVec 6, badAccess o .word = false → (decodeRead o).wellFormed = true := by
  decide

/-- An aligned offset that is not reserved is one of the eleven named registers (R63, R86). -/
theorem offset_cases_of_aligned : ∀ o : BitVec 6, badAccess o .word = false →
    reservedOffset o = true ∨ o = 0x00#6 ∨ o = 0x04#6 ∨ o = 0x08#6 ∨ o = 0x0C#6 ∨ o = 0x10#6 ∨ o = 0x14#6 ∨ o = 0x18#6
      ∨ o = 0x1C#6 ∨ o = 0x20#6 ∨ o = 0x24#6 ∨ o = 0x28#6 := by
  decide

/-- An aligned write of no named register is one of a reserved offset (R86). -/
theorem decodeWrite_wellFormed {o : BitVec 6} (hgood : badAccess o .word = false) (w : Word) :
    (decodeWrite o w).wellFormed = true := by
  rcases offset_cases_of_aligned o hgood with h | rfl | rfl | rfl | rfl | rfl | rfl | rfl | rfl | rfl | rfl | rfl
  case inl => rw [decodeWrite_of_reserved h]; exact h
  all_goals rfl

/-- Only 32-bit accesses are served (R61). -/
theorem size_eq_word_of_not_badAccess {o : BitVec 6} {z : AccessSize} (hgood : badAccess o z = false) : z = .word := by
  simp only [badAccess, Bool.or_eq_false_iff, decide_eq_false_iff_not, not_not] at hgood
  exact hgood.1

/-- Settles O2, by the order of the decoder's tests: the misaligned rows, then the direction. -/
theorem decodedIsWellFormed : Obligations.DecodedIsWellFormed := by
  intro c
  cases c with
  | cmd w => exact decodeCommand_wellFormed w
  | bus size desc data =>
    cases hbad : badAccess (descOffset desc) size with
    | true => simp [decode, decodeBus, Instr.wellFormed, hbad]
    | false =>
      obtain rfl := size_eq_word_of_not_badAccess hbad
      cases hwe : descWrite desc with
      | true => simpa [decode, decodeBus, hbad, hwe] using decodeWrite_wellFormed hbad data
      | false => simpa [decode, decodeBus, hbad, hwe] using decodeRead_wellFormed _ hbad

/-- The instruction of a command word encodes to that word: no bit of it is dropped (R84). -/
theorem encode_decodeCommand (w : Word) : encode (decodeCommand w) = .cmd w := by
  rcases decodeCommand_cases w with ⟨-, e⟩ | ⟨rfl, -⟩ | ⟨rfl, -⟩ | ⟨rfl, -⟩ | ⟨-, -, hw, e⟩
  · rw [e]; rfl
  · rfl
  · rfl
  · rfl
  · rw [e, encode, ← hw]

/-- Settles O3: two well-formed instructions of one word are both what that word decodes to. -/
theorem commandWordIsEncodedByItsInstruction : Obligations.CommandWordIsEncodedByItsInstruction := by
  refine fun w => ⟨encode_decodeCommand w, fun i hi he => ?_⟩
  calc i = decode (encode i) := (decodeOfEncodeIsIdentity i hi).symm
    _ = decodeCommand w := by rw [he]; rfl

/-! ## The legal command words (R83) -/

/-- By its two fields a word is legal exactly when it is 0, 1 or 2. -/
theorem cmdFields_legal_iff (w : Word) :
    (cmdRsvd w = 0#28 ∧ (cmdOp w = 0x0#4 ∨ cmdOp w = 0x1#4 ∨ cmdOp w = 0x2#4)) ↔ w.toNat ≤ 2 := by
  rcases decodeCommand_cases w with ⟨h, -⟩ | ⟨rfl, -⟩ | ⟨rfl, -⟩ | ⟨rfl, -⟩ | ⟨-, hop, hw, -⟩
  · have := mt (cmdRsvd_eq_zero_iff w).2 h
    simp [h]; omega
  · decide
  · decide
  · decide
  · have hne (v : BitVec 4) (hv : v.toNat < 3) : cmdOp w ≠ v := by rintro rfl; omega
    have hgt : 2 < w.toNat := by rw [hw]; simp; omega
    simp [hne 0x0#4 (by decide), hne 0x1#4 (by decide), hne 0x2#4 (by decide), hgt]

/-- The decoder tests the same two fields, RSVD first (R83). -/
theorem cmdFields_legal_iff_decodeCommand (w : Word) :
    (cmdRsvd w = 0#28 ∧ (cmdOp w = 0x0#4 ∨ cmdOp w = 0x1#4 ∨ cmdOp w = 0x2#4))
      ↔ (decodeCommand w = .nop ∨ decodeCommand w = .init ∨ decodeCommand w = .encode) := by
  unfold decodeCommand
  split_ifs with hr h0 h1 h2
  · simp [hr]
  · simp [not_not.1 hr, h0]
  · simp [not_not.1 hr, h1]
  · simp [not_not.1 hr, h2]
  · simp [h0, h1, h2]

/-- Settles O4: the decoder tests the two fields; a word they do not pass is above 2 and runs R105. -/
theorem legalCommandWords : Obligations.LegalCommandWords := by
  refine fun w s => ⟨cmdFields_legal_iff_decodeCommand w, fun h => ?_⟩
  have hw : 2 < w.toNat := Nat.not_le.1 (mt (cmdFields_legal_iff w).2 h)
  simp only [Machine.exec, Machine.execWrCmd, Machine.runCommand_illegal s hw]
  rfl

/-! ## The access descriptor map (R85, R86) -/

/-- The number of a read's descriptor is its offset. -/
theorem setWidth_eq_descriptor : ∀ o : BitVec 6, o.setWidth 9 = descriptor false o := by
  decide

/-- A write's descriptor has bit 8 set besides. -/
theorem or_setWidth_eq_descriptor : ∀ o : BitVec 6, 0x100#9 ||| o.setWidth 9 = descriptor true o := by
  decide

/-- An offset with bits [1:0] ≠ 0 is misaligned (R62). -/
theorem badAccess_of_low_bits : ∀ o : BitVec 6, o.extractLsb' 0 2 ≠ 0 → badAccess o .word = true := by
  decide

/-- Settles O5: the 22 named rows are evaluated, the reserved and misaligned ones go through their test. -/
theorem accessDescriptorMap : Obligations.AccessDescriptorMap := by
  refine fun d => ⟨by and_intros <;> rfl, fun o ho => ?_, fun o ho => ?_⟩
  · have hres := (reservedOffset_iff o).2 ho
    have hgood := badAccess_of_reserved o hres
    rw [or_setWidth_eq_descriptor, setWidth_eq_descriptor, decode_read hgood, decode_write hgood]
    exact ⟨decodeRead_of_reserved o hres, decodeWrite_of_reserved hres d⟩
  · have hbad := badAccess_of_low_bits o ho
    rw [or_setWidth_eq_descriptor, setWidth_eq_descriptor]
    exact ⟨decode_badAccess hbad false d, decode_badAccess hbad true d⟩

/-- Settles O6, by evaluating the nine rows. -/
theorem tableRowWordsDecode : Obligations.TableRowWordsDecode := by
  unfold Obligations.TableRowWordsDecode
  decide

end Sys2Proof

/-! ## The pseudo-instruction ENCODEW (30_encoding.md R88, 43_encoder.md R161) -/

namespace Sys2Proof.Machine

open Sys2Proof

/-- An access that a line makes at BASE + offset stands in the window (R60, R87). -/
theorem inWindow_base_add (c : Config) (o : BitVec 6) (z : AccessSize) (we : Bool) (w : Word) :
    Access.inWindow c ⟨c.base + o.toNat, z, we, w⟩ = true := by
  have := o.isLt
  simp [Access.inWindow_iff]; omega

section lines

variable {s : State} {o : BitVec 6} {rest : List HostEvent}
  (hb : s.config.base % 64 = 0) (hr : s.inReset = false) (hgood : badAccess o .word = false)

include hb hr hgood

/-- The line `WR` runs the register's write (R86, R87). -/
theorem step_wr {w : Word} (hp : s.pending = wr s.config o w :: rest) :
    step s = exec (decodeWrite o w) (s.setPending rest) := by
  rw [step_access_in_window hp hr (inWindow_base_add ..), Access.code, offset_of_base_add hb]
  exact congrArg (exec · _) (decode_write hgood w)

/-- The line `RD` runs the register's read (R86, R87). -/
theorem step_rd (hp : s.pending = rd s.config o :: rest) : step s = exec (decodeRead o) (s.setPending rest) := by
  rw [step_access_in_window hp hr (inWindow_base_add ..), Access.code, offset_of_base_add hb]
  exact congrArg (exec · _) (decode_read hgood 0)

end lines

/-- A run goes on from the state its first step answers. -/
theorem run_succ_of_step {M : Host.Core} {s t : M.State} (k : Nat) (h : M.step s = .next t) :
    M.run (k + 1) s = M.run k t := by
  rw [Host.Core.run, h]

/-- With a ready generator EncodeOp of a data word of k bits is its code word (R160, R161). -/
theorem encodeOp_of_genReady {s : State} {g d : Word} (hg : GenReady s g) (hd : d.toNat < 2 ^ s.k) :
    encodeOp s d = some (BitVec.ofNat 32 ((d.toNat <<< s.p) ^^^ pmod (d.toNat <<< s.p) g.toNat)) := by
  obtain ⟨hok, hacc, hkn, -, hdeg, -, htop⟩ := hg
  have hp : 1 ≤ s.p := Nat.sub_pos_of_lt hkn
  rw [encodeOp_defined hok hacc hd, codeWord_eq_xor, encodeLoop_eq_pmod hp hdeg htop hd]

/-- The state after the line `WR DATA_IN, d`, with `q` still to come (R88, R191). -/
def State.afterData (s : State) (d : Word) (q : List HostEvent) : State :=
  ((s.setPending q).setDataIn d).respond .written

/-- The state after the line `CMD ENCODE`, with `q` still to come (R88, R104). -/
def State.afterEncode (s : State) (q : List HostEvent) : State := (s.setPending q).runEncode.respond .written

/-- Settles O60: one step per line, then the value of CODE_OUT that the last line reads. -/
theorem encodewReadsTheCodeWord : Obligations.EncodewReadsTheCodeWord := by
  intro s g d rest hc hg hd hr hp
  obtain ⟨-, -, hb⟩ := hc
  let q₂ := rd s.config 0x18#6 :: rest
  let s₁ := s.afterData d (cmd s.config 0x00000002#32 :: q₂)
  let s₂ := s₁.afterEncode q₂
  have h₁ : step s = .next s₁ := step_wr hb hr (o := 0x14#6) (by decide) hp
  have h₂ : step s₁ = .next s₂ := step_wr (s := s₁) (w := 0x00000002#32) hb hr (o := 0x00#6) (by decide) rfl
  have hcode : s₂.codeOut = some _ := encodeOp_of_genReady (s := s₁) (d := d) hg hd
  have h₃ : step s₂ = .next ((s₂.setPending rest).respond (.data _)) :=
    (step_rd (s := s₂) hb hr (o := 0x18#6) (by decide) rfl).trans (congrArg (readStored · (s₂.setPending rest)) hcode)
  refine ⟨(s₂.setPending rest).respond (.data _), ?_, rfl, rfl⟩
  calc Sys2Proof.core.run 3 s
    _ = Sys2Proof.core.run 2 s₁ := run_succ_of_step 2 h₁
    _ = Sys2Proof.core.run 1 s₂ := run_succ_of_step 1 h₂
    _ = .next ((s₂.setPending rest).respond (.data _)) := run_succ_of_step 0 h₃

end Sys2Proof.Machine

/-! ## The commands (40_commands.md R100 to R106) -/

namespace Sys2Proof.Machine

open Sys2Proof

/-- The dispatch of R101 does what the decoded command does, for every word (R84, R106). -/
theorem exec_decodeCommand (w : Word) (s : State) : exec (decodeCommand w) s = .next (s.runCommand w) := by
  rcases decodeCommand_cases w with ⟨hrsvd, e⟩ | ⟨rfl, -⟩ | ⟨rfl, -⟩ | ⟨rfl, -⟩ | ⟨-, hop, hw, e⟩
  · have hlt : ¬w.toNat < 16 := mt (cmdRsvd_eq_zero_iff w).2 hrsvd
    rw [e, runCommand_illegal s (by omega)]
    rfl
  · rfl
  · rfl
  · rfl
  · have hlt : 2 < w.toNat := by rw [hw, BitVec.toNat_setWidth_of_le (by decide)]; omega
    rw [e, runCommand_illegal s hlt]
    rfl

/-- Settles O14: both are the state that the dispatch of R101 leaves. -/
theorem cmdWriteRunsItsCommand : Obligations.CmdWriteRunsItsCommand :=
  fun w s => ⟨s.runCommand w, exec_decodeCommand w s, rfl⟩

/-- Settles O15, by the word 0 and NOP's arm. -/
theorem nopChangesNothing : Obligations.NopChangesNothing :=
  ⟨rfl, fun _ => rfl⟩

/-- Settles O16: both forms drop the command and set CMD_ERR. -/
theorem illegalCommandSetsOnlyCmdErr : Obligations.IllegalCommandSetsOnlyCmdErr :=
  fun _ _ _ => ⟨rfl, rfl⟩

/-- Settles O30: the loop's division, and EncodeOp's answer with a ready generator. -/
theorem encodeIsLongDivision : Obligations.EncodeIsLongDivision := by
  intro s g hg hd
  have ⟨_, _, hkn, _, hdeg, _, htop⟩ := hg
  refine ⟨encodeLoop_eq_pmod (Nat.sub_pos_of_lt hkn) hdeg htop hd, ?_⟩
  exact congrArg (fun c => Host.Outcome.next (s.setCodeOut c)) (encodeOp_of_genReady hg hd)

/-! ## Every instruction has a meaning (R106, 60_exceptions.md R210) -/

/-- No arm refuses: reads of a storage element, which can hold ⊥, complete, and every other arm is a next state or the
bus error. -/
theorem exec_ne_refused (i : Instr) (s : State) (r : Refusal) : exec i s ≠ .refused r := by
  have stored (c : Stored) : readStored c s ≠ .refused r := by
    obtain ⟨v, j, hv⟩ := readStored_completes c s
    simp [hv]
  cases i with
  | rdCodeOut => exact stored s.codeOut
  | rdGen => exact stored s.gAcc
  | rdTabData => exact stored (selectedEntry s)
  | nop | init | encode | illegalOp | illegalRsvd | rdCmd | wrCmd | rdStatus | wrStatus | rdCfgN | wrCfgN | rdCfgK
  | wrCfgK | rdCfgPoly | wrCfgPoly | rdDataIn | wrDataIn | wrCodeOut | wrGen | rdTabSel | wrTabSel | wrTabData
  | rdParam | wrParam | rdRsvd | wrRsvd | misaligned => nofun

/-- An access is held back, outside the window, or runs an instruction: none of them is a refusal. -/
theorem performAccess_ne_refused (a : Access) (s : State) (r : Refusal) : performAccess a s ≠ .refused r := by
  unfold performAccess
  split
  · nofun
  · split
    · exact exec_ne_refused _ s r
    · nofun

/-- Settles O11, by the head of the queue. -/
theorem stepIsNeverRefused : Obligations.StepIsNeverRefused := by
  intro s r
  cases hp : s.pending with
  | nil => simp [step, hp]
  | cons e rest =>
    cases e with
    | access a => exact step_access hp ▸ performAccess_ne_refused a _ r
    | assertReset => simp [step, hp, performEvent]
    | releaseReset => simp [step, hp, performEvent]

/-! ## The access of a table row's number (30_encoding.md R85, R100) -/

/-- The access of a descriptor decodes as the descriptor does: bits 7:6 are not read (log 12), nor is the data word of a
read (R85). -/
theorem decode_accessOfDescriptor {c : Config} (hb : c.base % 64 = 0) (desc : BitVec 9) (data : Word) :
    decode (accessOfDescriptor c desc data).code = decode (.bus .word desc data) := by
  have hoff : (accessOfDescriptor c desc data).offset = descOffset desc := offset_of_base_add hb ..
  rw [Access.code, hoff]
  cases hwe : descWrite desc <;> simp [accessOfDescriptor, decode, decodeBus, hwe]

/-- The access of a table row's number stands in the window. -/
theorem accessOfTableWord_inWindow (c : Config) (nbits w : Nat) : (accessOfTableWord c nbits w).inWindow c = true := by
  unfold accessOfTableWord
  split <;> exact accessOfDescriptor_inWindow ..

/-- The step of withFetchWord takes the access it put first and finds reset released (log 1). -/
theorem step_withFetchWord (s : State) (nbits w : Nat) :
    step (s.withFetchWord nbits w) = exec (decode (accessOfTableWord s.config nbits w).code) (s.setInReset false) :=
  step_access_in_window (s := s.withFetchWord nbits w) rfl rfl (accessOfTableWord_inWindow s.config nbits w)

/-- A row of at most 16 bits is a descriptor with the data word 0 (log 12). -/
theorem decodeTableWord_descriptor {nbits w : Nat} {i : Instr} (hn : ¬16 < nbits) (h : decodeTableWord nbits w = some i) :
    decode (.bus .word (BitVec.ofNat 9 w) 0) = i := by
  have hn32 : ¬32 < nbits := by omega
  rw [decodeTableWord, codeOfTableWord, if_neg hn32, if_neg hn] at h
  by_cases hw : w < 2 ^ 9
  · rw [if_pos hw] at h
    exact Option.some.inj h
  · rw [if_neg hw] at h
    cases h

/-- Settles O8, by the two formats: a command word is written to CMD, a descriptor decodes to the row's instruction. -/
theorem fetchedTableWordIsRun : Obligations.FetchedTableWordIsRun := by
  intro s nbits w i hb hi
  rw [step_withFetchWord]
  refine congrArg (exec · (s.setInReset false)) ?_
  unfold accessOfTableWord
  split
  · exact decode_accessOfDescriptor hb 0x100#9 (BitVec.ofNat 32 w)
  · exact (decode_accessOfDescriptor hb _ 0).trans (decodeTableWord_descriptor ‹_› hi)

end Sys2Proof.Machine

/-! ## The field INIT builds from the staged configuration (41_field_tables.md R120 to R129) -/

namespace Sys2Proof.Machine

open Sys2Proof

section builtField

variable (s : State)

/-- A.N after INIT is CFG_N (R103). -/
theorem State.runInit_n : s.runInit.n = s.cfgN.toNat := by
  have := s.cfgN.isLt
  simp [State.n]; omega

/-- A.M after INIT is the degree of CFG_POLY (R29, R103). -/
theorem State.runInit_aM : s.runInit.aM = deg s.cfgPoly.toNat := by simp [State.aM]

/-- The first arm of R121: outside the ranges INIT blanks both tables. -/
theorem runInit_of_not_inRange (h : fieldInRange s.config (deg s.cfgPoly.toNat) s.cfgN.toNat = false) :
    s.runInit.fieldOk = false ∧ s.runInit.alphaTo = blankTable s.config ∧ s.runInit.indexOf = blankTable s.config := by
  rcases runInit_tables s with hblank | ⟨hr, -⟩
  · exact hblank
  · rw [s.runInit_aM, s.runInit_n, h] at hr
    cases hr

variable {s} (hr : fieldInRange s.config (deg s.cfgPoly.toNat) s.cfgN.toNat = true)

include hr

/-- The second arm of R121: inside the ranges INIT stores the recurrence and the answer of FieldOk (R127). -/
theorem runInit_of_inRange :
    s.runInit.alphaTo = alphaTable s.config (deg s.cfgPoly.toNat) s.cfgN.toNat s.cfgPoly.toNat
      ∧ s.runInit.fieldOk = fieldOkFlag s.config (deg s.cfgPoly.toNat) s.cfgN.toNat s.runInit.alphaTo := by
  have hM : s.latchConfig.aM = deg s.cfgPoly.toNat := rfl
  have hn : s.latchConfig.n = s.cfgN.toNat := by rw [← s.runInit_n]; simp [State.n, State.latchConfig]
  have hbuild := buildField_cases s.latchConfig
  rw [hM, hn, show s.latchConfig.config = s.config from rfl, show s.latchConfig.aPoly = s.cfgPoly from rfl] at hbuild
  rw [s.runInit_alphaTo, s.runInit_fieldOk]
  rcases hbuild with ⟨hout, -⟩ | ⟨-, hf, e⟩ | ⟨-, hf, e⟩
  · rw [hr] at hout
    cases hout
  · simp [e, hf]
  · simp [e, hf]

/-- The entries up to n follow the recurrence (R121). -/
theorem runInit_alphaTo_getElem? {i : Nat} (hi : i ≤ s.cfgN.toNat) :
    s.runInit.alphaTo[i]? = some (some (BitVec.ofNat 32 (alphaAt (deg s.cfgPoly.toNat) s.cfgPoly.toNat i))) := by
  obtain ⟨-, -, -, hn⟩ := (fieldInRange_iff _ _ _).1 hr
  rw [(runInit_of_inRange hr).1, alphaTable_getElem? _ _ _ _ (Nat.le_trans hi hn), if_pos hi]

/-- The entries above n hold ⊥ (R124). -/
theorem runInit_alphaTo_above {i : Nat} (hlo : s.cfgN.toNat < i) (hhi : i ≤ s.config.nMax) :
    s.runInit.alphaTo[i]? = some none := by
  rw [(runInit_of_inRange hr).1, alphaTable_getElem? _ _ _ _ hhi, if_neg (Nat.not_le.2 hlo)]

end builtField

/-! ## The recurrence (R121) -/

/-- The first m entries are the powers of two. -/
theorem alphaAt_of_lt {m i : Nat} (poly : Nat) (hi : i < m) : alphaAt m poly i = 2 ^ i := by
  cases i with
  | zero => exact if_pos hi
  | succ i => exact if_pos hi

/-- The entry at m is poly-derived. -/
theorem alphaAt_deg (m poly : Nat) : alphaAt m poly m = poly ^^^ 2 ^ m := by
  cases m with
  | zero => rfl
  | succ m => simp [alphaAt]

/-- Multiplying a power of x by x. -/
theorem two_pow_shiftLeft_one (i : Nat) : 2 ^ i <<< 1 = 2 ^ (i + 1) := by simp [Nat.shiftLeft_eq, Nat.pow_succ]

/-- Every entry is the shift-and-reduce step of the one before, the first m + 1 of them too. -/
theorem alphaAt_succ {m : Nat} (poly : Nat) (hm : 1 ≤ m) (i : Nat) :
    alphaAt m poly (i + 1) = alphaNext m poly (alphaAt m poly i) := by
  rcases Nat.lt_trichotomy (i + 1) m with hlt | rfl | hgt
  · have hbit : (2 ^ (i + 1)).testBit m = false := Nat.testBit_two_pow_of_ne (Nat.ne_of_lt hlt)
    rw [alphaAt_of_lt poly hlt, alphaAt_of_lt poly (Nat.lt_of_succ_lt hlt)]
    simp [alphaNext, two_pow_shiftLeft_one, hbit]
  · rw [alphaAt_deg, alphaAt_of_lt poly (Nat.lt_succ_self i)]
    simp [alphaNext, two_pow_shiftLeft_one, Nat.xor_comm]
  · rw [alphaAt, if_neg (by omega), if_neg (by omega)]

/-- The step on stored words: one left shift, and a reduction when bit m is set (R121). -/
theorem ofNat_alphaNext {m : Nat} (hm : m < 32) (poly : Word) (a : Nat) :
    BitVec.ofNat 32 (alphaNext m poly.toNat a)
      = if (BitVec.ofNat 32 a <<< 1).getLsbD m then (BitVec.ofNat 32 a <<< 1) ^^^ poly else BitVec.ofNat 32 a <<< 1 := by
  have hshift : BitVec.ofNat 32 a <<< 1 = BitVec.ofNat 32 (a <<< 1) := BitVec.eq_of_toNat_eq (by simp [Nat.shiftLeft_eq])
  have hbit : (BitVec.ofNat 32 (a <<< 1)).getLsbD m = (a <<< 1).testBit m := by
    rw [BitVec.getLsbD_ofNat, decide_eq_true hm, Bool.true_and]
  rw [hshift, hbit, alphaNext]
  cases (a <<< 1).testBit m
  · simp
  · simp [BitVec.ofNat_xor]

/-- Settles O20: inside the ranges the recurrence, entry by entry; outside them the first arm of R121. -/
theorem initBuildsAlphaByTheRecurrence : Obligations.InitBuildsAlphaByTheRecurrence := by
  intro s hc
  refine ⟨s.runInit, rfl, fun hrange => ?_, fun hrange => ?_⟩
  · have hr := (fieldInRange_iff _ _ _).2 hrange
    obtain ⟨hm, hmax, hmn, -⟩ := hrange
    have hm5 : deg s.cfgPoly.toNat ≤ 5 := Nat.le_trans hmax hc.2.1
    have hone (i : Nat) : BitVec.ofNat 32 (2 ^ i) = 1#32 <<< i := BitVec.eq_of_toNat_eq (by simp [Nat.shiftLeft_eq])
    refine ⟨fun i hi => ?_, ?_, fun i hmi hin => ?_, fun i hlo hhi => ?_⟩
    · rw [runInit_alphaTo_getElem? hr (by omega), alphaAt_of_lt _ hi, hone]
    · rw [runInit_alphaTo_getElem? hr hmn, alphaAt_deg, BitVec.ofNat_xor, hone, BitVec.ofNat_toNat, BitVec.setWidth_eq]
    · refine ⟨_, runInit_alphaTo_getElem? hr (Nat.le_of_lt hin), ?_⟩
      rw [runInit_alphaTo_getElem? hr hin, alphaAt_succ _ hm, ofNat_alphaNext (by omega)]
    · exact runInit_alphaTo_above hr hlo hhi
  · have hr := Bool.eq_false_iff.2 (mt (fieldInRange_iff _ _ _).1 hrange)
    obtain ⟨hok, hal, hix⟩ := runInit_of_not_inRange s hr
    refine ⟨hok, fun i hi => ?_⟩
    rw [hal, hix]
    exact ⟨blankTable_getElem? s.config hi, blankTable_getElem? s.config hi⟩

/-! ## The recurrence is long division (the spec's inference under R121) -/

/-- A step of long division one bit higher, on the dividend one bit higher. -/
theorem pmodStep_shiftLeft_one {g i : Nat} (a : Nat) (hi : deg g ≤ i) :
    pmodStep g (i + 1) (a <<< 1) = pmodStep g i a <<< 1 := by
  have hbit : (a <<< 1).testBit (i + 1) = a.testBit i := by simp
  rw [pmodStep, pmodStep, hbit]
  cases a.testBit i
  · rfl
  · have hg : g <<< (i + 1 - deg g) = g <<< (i - deg g) <<< 1 := by rw [Nat.succ_sub hi, ← Nat.shiftLeft_add]
    rw [if_pos rfl, if_pos rfl, hg, Nat.shiftLeft_xor_distrib]

/-- The recurrence's step is the last step of the division of the shifted entry. -/
theorem alphaNext_eq_pmodStep (g a : Nat) : alphaNext (deg g) g a = pmodStep g (deg g) (a <<< 1) := by
  simp [alphaNext, pmodStep]

/-- Dividing the shifted dividend takes one more step. -/
theorem pmodFrom_shiftLeft_one (g : Nat) :
    ∀ n a, pmodFrom g (n + 1) (a <<< 1) = alphaNext (deg g) g (pmodFrom g n a)
  | 0, a => (alphaNext_eq_pmodStep g a).symm
  | n + 1, a => by
    rw [pmodFrom, ← Nat.add_assoc, pmodStep_shiftLeft_one a (Nat.le_add_right _ n), pmodFrom_shiftLeft_one g n, pmodFrom]

/-- The remainder of `x * a` is one shift-and-reduce step from that of `a`. -/
theorem pmod_shiftLeft_one (g a : Nat) : pmod (a <<< 1) g = alphaNext (deg g) g (pmod a g) := by
  have hdeg : deg (a <<< 1) ≤ deg a + 1 := by
    by_cases h0 : a = 0
    · subst h0; decide
    · have hlog : deg (2 * a) = deg a + 1 := Nat.log2_two_mul h0
      rw [Nat.shiftLeft_eq, Nat.mul_comm]
      exact hlog.le
  rw [← pmodFrom_eq_pmod g (a <<< 1) (deg a + 1 - deg g + 1) (by omega)]
  exact pmodFrom_shiftLeft_one g _ a

/-- "every entry satisfies alphaTo[i] = x^i mod A.POLY" (under R121). -/
theorem alphaAt_eq_pmod {poly : Nat} (hm : 1 ≤ deg poly) : ∀ i, alphaAt (deg poly) poly i = pmod (2 ^ i) poly
  | 0 => by
    rw [alphaAt_of_lt poly hm]
    exact (pmodFrom_of_lt poly _ _ (Nat.pow_lt_pow_right (by decide) hm)).symm
  | i + 1 => by
    have hshift : 2 ^ (i + 1) = 2 ^ i <<< 1 := (two_pow_shiftLeft_one i).symm
    rw [alphaAt_succ poly hm, alphaAt_eq_pmod hm i, hshift, pmod_shiftLeft_one]

/-- Settles O21: the entries are the recurrence's values, which are the remainders. -/
theorem alphaEntriesArePowersOfX : Obligations.AlphaEntriesArePowersOfX := by
  intro s _ hm hmax hmn hn
  refine ⟨s.runInit, rfl, fun i hi => ?_⟩
  rw [runInit_alphaTo_getElem? ((fieldInRange_iff _ _ _).2 ⟨hm, hmax, hmn, hn⟩) hi, alphaAt_eq_pmod hm]

/-! ## FIELD_OK (R127) -/

/-- Looking up 1 is finding the word 1: ⊥ and a missing entry look up as 0 (log 16). -/
theorem look_eq_one_iff (t : List Stored) (i : Nat) : look t i = 1 ↔ t[i]? = some (some (1 : Word)) := by
  have hword (w : Word) : w.toNat = 1 ↔ w = 1 := BitVec.toNat_inj (y := 1#32)
  rcases h : t[i]? with _ | _ | w
  · simp [look, List.getD_eq_getElem?_getD, h]
  · simp [look, List.getD_eq_getElem?_getD, h]
  · simpa [look, List.getD_eq_getElem?_getD, h] using hword w

/-- FieldOk() inside the ranges: the order condition, on the stored entries (R127). -/
theorem fieldOkFlag_iff {c : Config} {m n : Nat} {alpha : List Stored} (hr : fieldInRange c m n = true) :
    fieldOkFlag c m n alpha = true ↔ n = 2 ^ m - 1 ∧ alpha[n]? = some (some (1 : Word))
      ∧ ∀ i, 1 ≤ i → i ≤ n - 1 → alpha[i]? ≠ some (some (1 : Word)) := by
  obtain ⟨hm, -, hmn, -⟩ := (fieldInRange_iff _ _ _).1 hr
  simp only [fieldOkFlag, hr, Bool.true_and, Bool.and_eq_true, decide_eq_true_eq, List.all_eq_true, List.mem_range,
    Bool.or_eq_true, ne_eq, look_eq_one_iff, and_assoc]
  refine and_congr_right fun _ => and_congr_right fun _ => forall_congr' fun i => ?_
  constructor
  · exact fun h hlo hhi => (h (by omega)).resolve_left (by omega)
  · exact fun h hi => or_iff_not_imp_left.2 fun h0 => h (by omega) (by omega)

/-- FIELD_OK = 1 after INIT is R127's FieldOk(), on the table that INIT leaves. -/
theorem runInit_fieldOk_iff (s : State) :
    s.runInit.fieldOk = true ↔ fieldInRange s.config (deg s.cfgPoly.toNat) s.cfgN.toNat = true
      ∧ fieldOkFlag s.config (deg s.cfgPoly.toNat) s.cfgN.toNat s.runInit.alphaTo = true := by
  cases hr : fieldInRange s.config (deg s.cfgPoly.toNat) s.cfgN.toNat with
  | false => simp [(runInit_of_not_inRange s hr).1]
  | true => rw [(runInit_of_inRange hr).2]; simp

/-- Up to n, x^i = 1 modulo A.POLY exactly where the entry i of a valid field is 1 (R127). -/
theorem pmod_eq_one_iff_of_fieldOk {s : State} (hc : s.config.wf) (hok : s.runInit.fieldOk = true) {i : Nat}
    (hi : i ≤ s.cfgN.toNat) :
    pmod (2 ^ i) s.cfgPoly.toNat = 1 ↔ s.runInit.alphaTo[i]? = some (some (1 : Word)) := by
  obtain ⟨hr, hf⟩ := (runInit_fieldOk_iff s).1 hok
  obtain ⟨hm, -⟩ := (fieldInRange_iff _ _ _).1 hr
  rw [(runInit_of_inRange hr).1] at hf
  rw [← look_eq_one_iff, (runInit_of_inRange hr).1, look_valid hc rfl hf hi, alphaAt_eq_pmod hm]

/-- Settles O22: FieldOk() condition by condition, then the remainders behind the entries. -/
theorem fieldOkExactlyWhenValid : Obligations.FieldOkExactlyWhenValid := by
  intro s hc
  refine ⟨s.runInit, rfl, ?_, fun hok => ?_⟩
  · rw [runInit_fieldOk_iff, ← and_assoc]
    constructor
    · rintro ⟨hr, hf⟩
      obtain ⟨hm, hmax, hmn, hn⟩ := (fieldInRange_iff _ _ _).1 hr
      exact ⟨⟨⟨hm, hmax⟩, hmn, hn⟩, (fieldOkFlag_iff hr).1 hf⟩
    · rintro ⟨⟨⟨hm, hmax⟩, hmn, hn⟩, hvalid⟩
      have hr := (fieldInRange_iff _ _ _).2 ⟨hm, hmax, hmn, hn⟩
      exact ⟨hr, (fieldOkFlag_iff hr).2 hvalid⟩
  · obtain ⟨hr, hf⟩ := (runInit_fieldOk_iff s).1 hok
    obtain ⟨hord, hone, hfirst⟩ := (fieldOkFlag_iff hr).1 hf
    refine ⟨(pmod_eq_one_iff_of_fieldOk hc hok (Nat.le_refl _)).2 hone, fun i hlo hhi => ?_, ?_⟩
    · exact mt (pmod_eq_one_iff_of_fieldOk hc hok (Nat.le_of_lt hhi)).1 (hfirst i hlo (by omega))
    · rw [hord, Nat.sub_add_cancel (Nat.two_pow_pos _), Nat.clog_pow 2 _ (by decide)]

/-! ## The tables are inverse to each other (R128) -/

/-- Every nonzero element is a power of α below n: n different powers fill 1 to n (under R128). -/
theorem exists_alphaAt_eq {c : Config} {m n poly x : Nat} (hc : c.wf) (hdeg : deg poly = m)
    (hf : fieldOkFlag c m n (alphaTable c m n poly) = true) (hlo : 1 ≤ x) (hhi : x ≤ n) :
    ∃ i, i < n ∧ alphaAt m poly i = x := by
  have hmaps : Set.MapsTo (alphaAt m poly) (Finset.range n) (Finset.Icc 1 n) := fun i hi =>
    Finset.mem_coe.2 (Finset.mem_Icc.2 (alphaAt_range hc hdeg hf (Finset.mem_range.1 hi)))
  have hinj : Set.InjOn (alphaAt m poly) (Finset.range n) := fun i hi j hj =>
    alphaAt_inj (fieldOkFlag_mem_validFields hc hdeg hf) (Finset.mem_range.1 hi) (Finset.mem_range.1 hj)
  obtain ⟨i, hi, hx⟩ := Finset.surjOn_of_injOn_of_card_le _ hmaps hinj (by simp)
    (Finset.mem_coe.2 (Finset.mem_Icc.2 ⟨hlo, hhi⟩))
  exact ⟨i, Finset.mem_range.1 hi, hx⟩

/-- alphaTo[indexOf[x]] = x for every nonzero element x (under R128). -/
theorem alphaTo_indexOf_of_fieldOk {s : State} (hc : s.config.wf) (hok : s.runInit.fieldOk = true) {x : Nat}
    (hlo : 1 ≤ x) (hhi : x ≤ s.runInit.n) :
    ∃ j : Word, s.runInit.indexOf[x]? = some (some j)
      ∧ s.runInit.alphaTo[j.toNat]? = some (some (BitVec.ofNat 32 x) : Stored) := by
  rcases runInit_tables s with ⟨h, -⟩ | ⟨-, hal, ⟨h, -⟩ | ⟨-, hf, hix⟩⟩
  · simp [hok] at h
  · simp [hok] at h
  rw [hal] at hf hix
  have hdeg : deg s.runInit.aPoly.toNat = s.runInit.aM := rfl
  obtain ⟨i, hi, rfl⟩ := exists_alphaAt_eq hc hdeg hf hlo hhi
  have hj : (BitVec.ofNat 32 i).toNat = i := by
    have := s.runInit_n_lt
    rw [BitVec.toNat_ofNat]
    omega
  refine ⟨BitVec.ofNat 32 i, ?_, ?_⟩
  · rw [hix]
    exact indexTable_alphaAt hc hdeg hf hi
  · rw [hal, hj, alphaTable_getElem?_valid hc hdeg hf (Nat.le_of_lt hi), look_valid hc hdeg hf (Nat.le_of_lt hi)]

/-- Settles O23: one direction is the valid field INIT leaves, the other that the powers fill 1 to n. -/
theorem validFieldTablesAreInverse : Obligations.ValidFieldTablesAreInverse := by
  intro s hc
  refine ⟨s.runInit, rfl, fun hok => ?_⟩
  obtain ⟨-, -, -, hzero, hlast, hsentinel, hinv, -⟩ := validField_runInit hc hok
  refine ⟨hzero, hlast.trans hzero.symm, fun i hi => ?_, fun x hlo hhi => ?_, hsentinel⟩
  · obtain ⟨a, ha, -, -, hindex⟩ := hinv i hi
    exact ⟨a, ha, hindex⟩
  · exact alphaTo_indexOf_of_fieldOk hc hok hlo hhi

/-! ## An invalid field (R129, R149) -/

/-- Without a valid field BuildGenerator leaves ⊥, 0 and 0 (R149). -/
theorem runInit_generator_of_invalid {s : State} (h : s.runInit.fieldOk = false) :
    s.runInit.gAcc = none ∧ s.runInit.genOk = false ∧ s.runInit.gdeg = 0 := by
  rw [s.runInit_fieldOk] at h
  rcases buildGenerator_cases s.latchConfig.buildField with ⟨⟨hok, -⟩, -⟩ | ⟨-, e⟩
  · rw [h] at hok
    cases hok
  · simp [State.runInit, e]

/-- ENCODE without a generator of the right degree completes and changes CODE_OUT only, to ⊥ (R162). -/
theorem exec_encode_of_not_genOk {s : State} (h : s.genOk = false) :
    exec .encode s = .next { s with codeOut := none } :=
  congrArg (fun c => Host.Outcome.next (s.setCodeOut c)) (encodeOp_of_not_genOk h s.dataIn)

/-- Settles O25: the blank table, BuildGenerator's second case and ENCODE without a generator. -/
theorem invalidFieldLeavesBottoms : Obligations.InvalidFieldLeavesBottoms := by
  intro s
  refine ⟨s.runInit, rfl, fun hok => ?_⟩
  obtain ⟨hacc, hgen, hgdeg⟩ := runInit_generator_of_invalid hok
  refine ⟨fun i hi => ?_, hacc, hgen, hgdeg, exec_encode_of_not_genOk hgen⟩
  rw [runInit_indexOf_of_invalid hok]
  exact blankTable_getElem? s.config hi

end Sys2Proof.Machine

/-! ## Carry-less products (00_scope.md R13) -/

namespace Sys2Proof.Machine

open Sys2Proof

/-- The partial products below bit `w` of b stay below bit `deg a + w`. -/
theorem clmulBits_lt (a b : Nat) : ∀ w, clmulBits a b w < 2 ^ (deg a + w)
  | 0 => Nat.two_pow_pos _
  | w + 1 => by
    have hprev : clmulBits a b w < 2 ^ (deg a + (w + 1)) :=
      Nat.lt_of_lt_of_le (clmulBits_lt a b w) (Nat.pow_le_pow_right (by decide) (by omega))
    have hshift : a <<< w < 2 ^ (deg a + (w + 1)) := by
      have hpow : 2 ^ (deg a + (w + 1)) = 2 ^ (deg a + 1) * 2 ^ w := by rw [← Nat.pow_add]; congr 1; omega
      rw [hpow, Nat.shiftLeft_eq]
      exact Nat.mul_lt_mul_of_pos_right (lt_two_pow_deg_succ a) (Nat.two_pow_pos w)
    rw [clmulBits]
    split
    · exact Nat.xor_lt_two_pow hprev hshift
    · rwa [Nat.xor_zero]

/-- The degree of a product is the sum of the degrees: the last partial product alone reaches it. -/
theorem deg_clmul {a b : Nat} (ha : a ≠ 0) (hb : b ≠ 0) : deg (clmul a b) = deg a + deg b := by
  refine deg_eq_of_testBit ?_ (clmulBits_lt a b (deg b + 1))
  have hlow : (clmulBits a b (deg b)).testBit (deg a + deg b) = false := Nat.testBit_lt_two_pow (clmulBits_lt a b _)
  simp [clmul, clmulBits, hlow, testBit_deg ha, testBit_deg hb]

/-- Above bit 0 of b no partial product has a constant coefficient. -/
theorem testBit_zero_clmulBits (a b : Nat) : ∀ w, (clmulBits a b (w + 1)).testBit 0 = (a.testBit 0 && b.testBit 0)
  | 0 => by cases h : b.testBit 0 <;> simp [clmulBits, h]
  | w + 1 => by
    rw [clmulBits, Nat.testBit_xor, testBit_zero_clmulBits a b w]
    split <;> simp

/-- The constant coefficient of a product. -/
theorem testBit_zero_clmul (a b : Nat) : (clmul a b).testBit 0 = (a.testBit 0 && b.testBit 0) :=
  testBit_zero_clmulBits a b (deg b)

/-- A mask with constant coefficient 1 is not 0. -/
theorem ne_zero_of_testBit_zero {a : Nat} (h : a.testBit 0 = true) : a ≠ 0 := by
  rintro rfl
  cases h

/-! ## Multiples: remainder 0 (00_scope.md R13) -/

/-- The remainder is linear. -/
theorem pmod_xor (a b g : Nat) : pmod (a ^^^ b) g = pmod a g ^^^ pmod b g := by
  have hcount (x : Nat) (hx : deg x ≤ deg a + deg b + deg (a ^^^ b)) :
      pmodFrom g (deg a + deg b + deg (a ^^^ b) + 1) x = pmod x g := pmodFrom_eq_pmod g x _ (by omega)
  rw [← hcount (a ^^^ b) (by omega), ← hcount a (by omega), ← hcount b (by omega), pmodFrom_xor]

/-- A nonzero mask divides itself. -/
theorem pmod_self {g : Nat} (hg : g ≠ 0) : pmod g g = 0 := by
  have hone : deg g + 1 - deg g = 1 := by omega
  simp [pmod, hone, pmodFrom, pmodStep, testBit_deg hg]

section multiples

variable {a g : Nat} (h : pmod a g = 0)

include h

/-- x^j times a multiple is a multiple. -/
theorem pmod_shiftLeft_of_multiple : ∀ j, pmod (a <<< j) g = 0
  | 0 => h
  | j + 1 => by rw [Nat.shiftLeft_add, pmod_shiftLeft_one, pmod_shiftLeft_of_multiple j]; simp [alphaNext]

/-- A product with a multiple is a multiple. -/
theorem pmod_clmul_of_multiple (b : Nat) : pmod (clmul a b) g = 0 := by
  have hbits (w : Nat) : pmod (clmulBits a b w) g = 0 := by
    induction w with
    | zero => exact pmod_zero_left g
    | succ w ih =>
      rw [clmulBits, pmod_xor, ih]
      split
      · rw [pmod_shiftLeft_of_multiple h]; rfl
      · rw [pmod_zero_left]; rfl
  exact hbits _

end multiples

end Sys2Proof.Machine

/-! ## Conjugacy classes (42_generator.md R141) -/

namespace Sys2Proof.Machine

open Sys2Proof

/-- The exponent e doubled j times modulo n. -/
def doubled (n e j : Nat) : Nat := 2 ^ j * e % n

theorem two_mul_doubled (n e j : Nat) : 2 * doubled n e j % n = doubled n e (j + 1) := by
  rw [doubled, doubled, Nat.mul_mod_mod, ← Nat.mul_assoc, ← Nat.pow_succ']

theorem doubled_zero {n e : Nat} (he : e < n) : doubled n e 0 = e := by simp [doubled, Nat.mod_eq_of_lt he]

/-- Modulo 2^m − 1, m doublings come back to the start. -/
theorem doubled_degree {m n : Nat} (hn : n = 2 ^ m - 1) (e : Nat) : doubled n e m = doubled n e 0 := by
  have hpow : 2 ^ m = n + 1 := by have := Nat.two_pow_pos m; omega
  simp [doubled, hpow, Nat.succ_mul]

/-- The loop of R141 collects doublings, all different, until it meets a repeat or its fuel ends. -/
theorem conjFrom_eq_doublings (n e : Nat) : ∀ fuel i, ((List.range i).map (doubled n e)).Nodup →
    ∃ len, conjFrom n fuel (doubled n e i) ((List.range i).map (doubled n e)) = (List.range len).map (doubled n e)
      ∧ ((List.range len).map (doubled n e)).Nodup
      ∧ (len = i + fuel ∨ doubled n e len ∈ (List.range len).map (doubled n e))
  | 0, i, hnodup => ⟨i, rfl, hnodup, .inl rfl⟩
  | fuel + 1, i, hnodup => by
    rw [conjFrom]
    split
    · exact ⟨i, rfl, hnodup, .inr ‹_›⟩
    · have happend : (List.range i).map (doubled n e) ++ [doubled n e i] = (List.range (i + 1)).map (doubled n e) := by
        simp [List.range_succ]
      rw [two_mul_doubled, happend, show i + (fuel + 1) = i + 1 + fuel by omega]
      refine conjFrom_eq_doublings n e fuel (i + 1) ?_
      rw [← happend]
      simpa using hnodup.concat ‹_›

/-- The class of e: its first `len` doublings, all different, the next one a repeat; `len` is in 1 to m. -/
theorem conjClass_eq_doublings {m n e : Nat} (hm : 1 ≤ m) (hn : n = 2 ^ m - 1) (he : e < n) :
    ∃ len, 1 ≤ len ∧ len ≤ m ∧ conjClass n e = (List.range len).map (doubled n e) ∧ (conjClass n e).Nodup
      ∧ doubled n e len ∈ conjClass n e := by
  obtain ⟨len, heq, hnodup, hstop⟩ := conjFrom_eq_doublings n e n 0 List.nodup_nil
  rw [doubled_zero he] at heq
  have hclass : conjClass n e = (List.range len).map (doubled n e) := heq
  have hlo : 1 ≤ len := by
    rcases hstop with h | h
    · omega
    · obtain ⟨j, hj, -⟩ := List.mem_map.1 h
      have := List.mem_range.1 hj
      omega
  have hhi : len ≤ m := by
    by_contra hlt
    have hsame := List.inj_on_of_nodup_map hnodup (List.mem_range.2 (Nat.not_le.1 hlt)) (List.mem_range.2 hlo)
      (doubled_degree hn e)
    omega
  have hrepeat : doubled n e len ∈ (List.range len).map (doubled n e) := by
    rcases hstop with hfuel | h
    · have hlen : len = m := by have := Nat.lt_two_pow_self (n := m); omega
      rw [hlen, doubled_degree hn]
      exact List.mem_map_of_mem (List.mem_range.2 hm)
    · exact h
  exact ⟨len, hlo, hhi, hclass, hclass ▸ hnodup, hclass ▸ hrepeat⟩

/-- A class begins with its exponent. -/
theorem self_mem_conjClass {m n e : Nat} (hm : 1 ≤ m) (hn : n = 2 ^ m - 1) (he : e < n) : e ∈ conjClass n e := by
  obtain ⟨len, hlo, -, hclass, -⟩ := conjClass_eq_doublings hm hn he
  rw [hclass]
  exact List.mem_map.2 ⟨0, List.mem_range.2 hlo, doubled_zero he⟩

/-- A class holds exponents below n and is closed under doubling. -/
theorem conjClass_closed {m n e c : Nat} (hm : 1 ≤ m) (hn : n = 2 ^ m - 1) (he : e < n) (hc : c ∈ conjClass n e) :
    c < n ∧ 2 * c % n ∈ conjClass n e := by
  obtain ⟨len, -, -, hclass, -, hrepeat⟩ := conjClass_eq_doublings hm hn he
  rw [hclass] at hc hrepeat ⊢
  obtain ⟨j, hj, rfl⟩ := List.mem_map.1 hc
  refine ⟨Nat.mod_lt _ (by omega), ?_⟩
  rw [two_mul_doubled]
  rcases Nat.lt_or_eq_of_le (Nat.succ_le_of_lt (List.mem_range.1 hj)) with hnext | hlast
  · exact List.mem_map_of_mem (List.mem_range.2 hnext)
  · exact hlast ▸ hrepeat

/-! ## Minimal polynomials and the full product, field by field (42_generator.md R142, R144) -/

/-- What the spec remarks of MinPoly(e): binary coefficients, the degree of the class, constant coefficient 1. -/
abbrev MinPolyOk (n : Nat) (alpha index : List Stored) (e : Nat) : Prop :=
  (∀ c ∈ minPolyCoeffs n alpha index e, c = 0 ∨ c = 1)
    ∧ deg (minPoly n alpha index e) = (conjClass n e).length ∧ (minPoly n alpha index e).testBit 0 = true

/-- BuildGenerator's first factor is A.POLY, and the product over all roots is x^n + 1. -/
abbrev ProductOk (n poly : Nat) (alpha index : List Stored) : Prop :=
  (genLoop n n alpha index 1).acc = poly ∧ (genLoop n n alpha index n).acc = 2 ^ n + 1

/-- The tables of a valid field: one of the twelve, in a block of any size that holds it (R121, R122). -/
structure FieldTables (m n poly : Nat) (alpha index : List Stored) : Prop where
  exists_config : ∃ c : Config, c.mMax ≤ 5 ∧ m ≤ c.mMax ∧ alpha = alphaTable c m n poly ∧ index = indexTable c n alpha
  mem_validFields : (m, n, poly) ∈ validFields

/-- alphaTo and indexOf of a field in a block with M_MAX = M; BASE is read by neither. -/
abbrev blockAlpha (M : Nat) (f : Nat × Nat × Nat) : List Stored := alphaTable ⟨M, 0⟩ f.1 f.2.1 f.2.2
abbrev blockIndex (M : Nat) (f : Nat × Nat × Nat) : List Stored := indexTable ⟨M, 0⟩ f.2.1 (blockAlpha M f)

/-- In each of the twelve fields every minimal polynomial is as the spec remarks. -/
theorem validFields_minPoly : ∀ M ≤ 5, ∀ f ∈ validFields, f.1 ≤ M → ∀ e < f.2.1,
    MinPolyOk f.2.1 (blockAlpha M f) (blockIndex M f) e := by
  decide +kernel

/-- In each of the twelve fields the product runs from A.POLY to x^n + 1. -/
theorem validFields_product : ∀ M ≤ 5, ∀ f ∈ validFields, f.1 ≤ M →
    ProductOk f.2.1 f.2.2 (blockAlpha M f) (blockIndex M f) := by
  decide +kernel

theorem validFields_size : ∀ f ∈ validFields, 1 ≤ f.1 ∧ f.2.1 = 2 ^ f.1 - 1 ∧ f.2.1 ≤ 31 := by decide

section fieldTables

variable {m n poly : Nat} {alpha index : List Stored} (h : FieldTables m n poly alpha index)

include h

theorem FieldTables.size : 1 ≤ m ∧ n = 2 ^ m - 1 ∧ n ≤ 31 := validFields_size _ h.mem_validFields

theorem FieldTables.n_pos : 1 ≤ n := by
  obtain ⟨hm, hn, -⟩ := h.size
  have : 2 ^ 1 ≤ 2 ^ m := Nat.pow_le_pow_right (by decide) hm
  omega

theorem FieldTables.minPolyOk {e : Nat} (he : e < n) : MinPolyOk n alpha index e := by
  obtain ⟨⟨c, hmax, hm, rfl, rfl⟩, hf⟩ := h
  exact validFields_minPoly c.mMax hmax _ hf hm e he

theorem FieldTables.productOk : ProductOk n poly alpha index := by
  obtain ⟨⟨c, hmax, hm, rfl, rfl⟩, hf⟩ := h
  exact validFields_product c.mMax hmax _ hf hm

end fieldTables

end Sys2Proof.Machine

/-! ## BuildGenerator's loop (42_generator.md R144, R148) -/

namespace Sys2Proof.Machine

open Sys2Proof

section generatorLoop

variable {m n poly : Nat} {alpha index : List Stored}

/-- Everything one turn can do: stop, pass an absorbed root, or multiply by a minimal polynomial (R144). -/
theorem genStep_cases (n p : Nat) (alpha index : List Stored) (a : GenAcc) (r : Nat) :
    (p ≤ deg a.acc ∧ genStep n p alpha index a r = a)
    ∨ (deg a.acc < p ∧ r % n ∈ a.absorbed ∧ genStep n p alpha index a r = a)
    ∨ (deg a.acc < p ∧ genStep n p alpha index a r
        = ⟨clmul a.acc (minPoly n alpha index (r % n)), a.absorbed ++ conjClass n (r % n)⟩) := by
  by_cases hstop : p ≤ deg a.acc
  · exact .inl ⟨hstop, if_pos hstop⟩
  · have hlt := Nat.not_le.1 hstop
    by_cases hmem : r % n ∈ a.absorbed
    · exact .inr (.inl ⟨hlt, hmem, (if_neg hstop).trans (if_pos hmem)⟩)
    · exact .inr (.inr ⟨hlt, (if_neg hstop).trans (if_neg hmem)⟩)

/-- The accumulator after r turns of the loop with no break before degree n. -/
abbrev fullLoop (n : Nat) (alpha index : List Stored) (r : Nat) : GenAcc := genLoop n n alpha index r

/-- A loop with the break at degree p ≤ n is the full loop, ended early only at degree p or above. -/
theorem genLoop_eq_fullLoop {p : Nat} (hp : p ≤ n) (alpha index : List Stored) : ∀ r,
    ∃ j, j ≤ r ∧ genLoop n p alpha index r = fullLoop n alpha index j
      ∧ (j = r ∨ p ≤ deg (fullLoop n alpha index j).acc)
  | 0 => ⟨0, Nat.le_refl _, rfl, .inl rfl⟩
  | r + 1 => by
    obtain ⟨j, hj, heq, hend⟩ := genLoop_eq_fullLoop hp alpha index r
    by_cases hstop : p ≤ deg (fullLoop n alpha index j).acc
    · exact ⟨j, Nat.le_succ_of_le hj, by rw [genLoop, heq]; exact if_pos hstop, .inr hstop⟩
    · obtain rfl := hend.resolve_right hstop
      have hfull : ¬n ≤ deg (fullLoop n alpha index j).acc := fun hle => hstop (Nat.le_trans hp hle)
      exact ⟨j + 1, Nat.le_refl _, by rw [genLoop, heq]; exact (if_neg hstop).trans (if_neg hfull).symm, .inl rfl⟩

/-- The product has constant coefficient 1, and its degree counts the absorbed exponents. -/
def GenAcc.Counted (a : GenAcc) : Prop := a.acc.testBit 0 = true ∧ deg a.acc = a.absorbed.length

variable (h : FieldTables m n poly alpha index)

include h

theorem genStep_counted {p r : Nat} {a : GenAcc} (ha : a.Counted) : (genStep n p alpha index a r).Counted := by
  rcases genStep_cases n p alpha index a r with ⟨-, e⟩ | ⟨-, -, e⟩ | ⟨-, e⟩
  · rwa [e]
  · rwa [e]
  · obtain ⟨hbit, hdeg⟩ := ha
    obtain ⟨-, hmindeg, hminbit⟩ := h.minPolyOk (Nat.mod_lt r h.n_pos)
    rw [e]
    refine ⟨by simp only [testBit_zero_clmul, hbit, hminbit, Bool.and_self], ?_⟩
    rw [deg_clmul (ne_zero_of_testBit_zero hbit) (ne_zero_of_testBit_zero hminbit), hdeg, hmindeg, List.length_append]

theorem genLoop_counted (p : Nat) : ∀ r, (genLoop n p alpha index r).Counted
  | 0 => ⟨Nat.testBit_one_zero, rfl⟩
  | r + 1 => genStep_counted h (genLoop_counted p r)

/-- A turn that goes on absorbs its root and drops none. -/
theorem genStep_absorbs (p r : Nat) (a : GenAcc) :
    p ≤ deg (genStep n p alpha index a r).acc
    ∨ (deg a.acc < p ∧ r % n ∈ (genStep n p alpha index a r).absorbed
      ∧ a.absorbed ⊆ (genStep n p alpha index a r).absorbed) := by
  rcases genStep_cases n p alpha index a r with ⟨hstop, e⟩ | ⟨hlt, hmem, e⟩ | ⟨hlt, e⟩ <;> rw [e]
  · exact .inl hstop
  · exact .inr ⟨hlt, hmem, List.Subset.refl _⟩
  · obtain ⟨hm, hn, -⟩ := h.size
    have hself := self_mem_conjClass hm hn (Nat.mod_lt r h.n_pos)
    exact .inr ⟨hlt, List.mem_append_right _ hself, List.subset_append_left _ _⟩

/-- Before the degree is n, every root visited is absorbed. -/
theorem fullLoop_absorbs : ∀ r, n ≤ deg (fullLoop n alpha index r).acc
    ∨ ∀ i < r, (i + 1) % n ∈ (fullLoop n alpha index r).absorbed
  | 0 => .inr fun i hi => absurd hi (Nat.not_lt_zero i)
  | r + 1 => by
    rcases genStep_absorbs h n (r + 1) (fullLoop n alpha index r) with hstop | ⟨hlt, hroot, hkept⟩
    · exact .inl hstop
    · have hprev := (fullLoop_absorbs r).resolve_left (Nat.not_le.2 hlt)
      refine .inr fun i hi => ?_
      rcases Nat.lt_succ_iff_lt_or_eq.1 hi with hir | rfl
      · exact hkept (hprev i hir)
      · exact hroot

/-- r turns visit r different roots modulo n, so the degree is at least r (under R148). -/
theorem le_deg_fullLoop {r : Nat} (hr : r ≤ n) : r ≤ deg (fullLoop n alpha index r).acc := by
  rcases fullLoop_absorbs h r with hstop | hmem
  · exact Nat.le_trans hr hstop
  · have hinj : Set.InjOn (fun i => (i + 1) % n) (Finset.range r) := fun i hi j hj hij =>
      (Nat.ModEq.add_right_cancel' 1 hij).eq_of_lt_of_lt (Nat.lt_of_lt_of_le (Finset.mem_range.1 hi) hr)
        (Nat.lt_of_lt_of_le (Finset.mem_range.1 hj) hr)
    calc r = ((Finset.range r).image fun i => (i + 1) % n).card := by
          rw [Finset.card_image_of_injOn hinj, Finset.card_range]
      _ ≤ (fullLoop n alpha index r).absorbed.toFinset.card := Finset.card_le_card fun x hx => by
          obtain ⟨i, hi, rfl⟩ := Finset.mem_image.1 hx
          exact List.mem_toFinset.2 (hmem i (Finset.mem_range.1 hi))
      _ ≤ (fullLoop n alpha index r).absorbed.length := List.toFinset_card_le _
      _ = deg (fullLoop n alpha index r).acc := (genLoop_counted h n r).2.symm

/-- Later turns multiply: the product so far divides every later one. -/
theorem fullLoop_multiple {i r : Nat} (hir : i ≤ r) :
    pmod (fullLoop n alpha index r).acc (fullLoop n alpha index i).acc = 0
      ∧ deg (fullLoop n alpha index i).acc ≤ deg (fullLoop n alpha index r).acc := by
  induction r, hir using Nat.le_induction with
  | base => exact ⟨pmod_self (ne_zero_of_testBit_zero (genLoop_counted h n i).1), Nat.le_refl _⟩
  | succ r hir ih =>
    obtain ⟨hmul, hle⟩ := ih
    rw [show fullLoop n alpha index (r + 1) = genStep n n alpha index (fullLoop n alpha index r) (r + 1) from rfl]
    rcases genStep_cases n n alpha index (fullLoop n alpha index r) (r + 1) with ⟨-, e⟩ | ⟨-, -, e⟩ | ⟨-, e⟩ <;> rw [e]
    · exact ⟨hmul, hle⟩
    · exact ⟨hmul, hle⟩
    · obtain ⟨-, -, hminbit⟩ := h.minPolyOk (Nat.mod_lt (r + 1) h.n_pos)
      refine ⟨pmod_clmul_of_multiple hmul _, ?_⟩
      rw [deg_clmul (ne_zero_of_testBit_zero (genLoop_counted h n r).1) (ne_zero_of_testBit_zero hminbit)]
      exact Nat.le_add_right_of_le hle

end generatorLoop

/-- The mask of x^n + 1 has degree n. -/
theorem deg_two_pow_add_one {n : Nat} (hn : 1 ≤ n) : deg (2 ^ n + 1) = n := by
  have : 2 ^ 1 ≤ 2 ^ n := Nat.pow_le_pow_right (by decide) hn
  exact (Nat.log2_eq_iff (by omega)).2 ⟨by omega, by rw [Nat.pow_succ]; omega⟩

/-- What the spec infers of the generator of p parity bits (under R142, R146 and R148). -/
structure GeneratorOf (n p poly g : Nat) : Prop where
  le_deg : p ≤ deg g
  deg_le : deg g ≤ n
  constant : g.testBit 0 = true
  divides : pmod (2 ^ n + 1) g = 0
  multiple : pmod g poly = 0

/-- BuildGenerator ends in the full loop, at a turn between the first, A.POLY, and the last, x^n + 1. -/
theorem generatorOf_generator {m n k poly : Nat} {alpha index : List Stored} (h : FieldTables m n poly alpha index)
    (hk : k < n) : GeneratorOf n (n - k) poly (generator n k alpha index) := by
  obtain ⟨j, hj, heq, hend⟩ := genLoop_eq_fullLoop (Nat.sub_le n k) alpha index (n - k)
  obtain ⟨hfirst, hlast⟩ := h.productOk
  have hjn : j ≤ n := Nat.le_trans hj (Nat.sub_le n k)
  have hdeg : n - k ≤ deg (fullLoop n alpha index j).acc := by
    rcases hend with rfl | hle
    · exact le_deg_fullLoop h hjn
    · exact hle
  have hpos : 1 ≤ j := by
    by_contra hzero
    obtain rfl : j = 0 := by omega
    have hone : deg (fullLoop n alpha index 0).acc = 0 := rfl
    omega
  obtain ⟨hdvd, hle⟩ := fullLoop_multiple h hjn
  have hmul := (fullLoop_multiple h hpos).1
  rw [fullLoop, hlast] at hdvd hle
  rw [deg_two_pow_add_one h.n_pos] at hle
  rw [show (fullLoop n alpha index 1).acc = poly from hfirst] at hmul
  rw [generator, heq]
  exact ⟨hdeg, hle, (genLoop_counted h n j).1, hdvd, hmul⟩

/-- With k = 0 the loop runs to the end. -/
theorem generator_zero {m n poly : Nat} {alpha index : List Stored} (h : FieldTables m n poly alpha index) :
    generator n 0 alpha index = 2 ^ n + 1 := h.productOk.2

end Sys2Proof.Machine

/-! ## The generator INIT leaves (42_generator.md R144 to R149) -/

namespace Sys2Proof.Machine

open Sys2Proof

/-- Behind FIELD_OK = 1 stand the tables of a valid field (R127). -/
theorem fieldTables_runInit {s : State} (hc : s.config.wf) (hok : s.runInit.fieldOk = true) :
    FieldTables s.runInit.aM s.runInit.n s.runInit.aPoly.toNat s.runInit.alphaTo s.runInit.indexOf := by
  rcases runInit_tables s with ⟨h, -⟩ | ⟨hr, hal, ⟨h, -⟩ | ⟨-, hf, hix⟩⟩
  · simp [hok] at h
  · simp [hok] at h
  · rw [hal] at hf
    exact ⟨⟨s.config, hc.2.1, ((fieldInRange_iff _ _ _).1 hr).2.1, hal, hix⟩, fieldOkFlag_mem_validFields hc rfl hf⟩

theorem State.runInit_gAcc (s : State) : s.runInit.gAcc = s.latchConfig.buildField.buildGenerator.gAcc := rfl
theorem State.runInit_gdeg (s : State) : s.runInit.gdeg = s.latchConfig.buildField.buildGenerator.gdeg := rfl
theorem State.runInit_genOk (s : State) : s.runInit.genOk = s.latchConfig.buildField.buildGenerator.genOk := rfl

/-- BuildGenerator's product for the configuration and the tables of the state, as an exact number (R144, log 21). -/
def State.product (s : State) : Nat := generator s.n s.k s.alphaTo s.indexOf

/-- Where INIT has latched the configuration, the cases of BuildGenerator speak of the state it leaves. -/
theorem runInit_generator_cases (s : State) :
    ((s.runInit.fieldOk = true ∧ s.runInit.k < s.runInit.n)
      ∧ s.runInit.gAcc = some (BitVec.ofNat 32 s.runInit.product) ∧ s.runInit.gdeg = gdegField s.runInit.product
      ∧ s.runInit.genOk = genOkFlag s.runInit.product s.runInit.p)
    ∨ (¬(s.runInit.fieldOk = true ∧ s.runInit.k < s.runInit.n)
      ∧ s.runInit.gAcc = none ∧ s.runInit.gdeg = 0 ∧ s.runInit.genOk = false) := by
  have hn : s.latchConfig.buildField.n = s.runInit.n := by simp [State.n, State.latchConfig]
  have hk : s.latchConfig.buildField.k = s.runInit.k := by simp [State.k, State.latchConfig]
  have hp : s.latchConfig.buildField.p = s.runInit.p := by rw [State.p, State.p, hn, hk]
  have hcases := buildGenerator_cases s.latchConfig.buildField
  rw [hn, hk, hp, ← s.runInit_fieldOk, ← s.runInit_alphaTo, ← s.runInit_indexOf] at hcases
  rw [s.runInit_gAcc, s.runInit_gdeg, s.runInit_genOk]
  rcases hcases with ⟨hrun, e⟩ | ⟨hrun, e⟩ <;> rw [e]
  · exact .inl ⟨hrun, rfl, rfl, rfl⟩
  · exact .inr ⟨hrun, rfl, rfl, rfl⟩

/-- The generator stored in `t` is the one of its configuration, and GDEG and GEN_OK are its degree and the answer to
R146. -/
structure BuiltGenerator (t : State) (g : Word) : Prop where
  gAcc : t.gAcc = some g
  gdeg : t.gdeg.toNat = deg g.toNat
  genOk : t.genOk = true ↔ deg g.toNat = t.p
  n_le : t.n ≤ 31
  spec : GeneratorOf t.n t.p t.aPoly.toNat g.toNat

/-- A mask of degree at most 31 is stored without loss, and so is its degree in GDEG (R107). -/
theorem stored_mask {g : Nat} (hdeg : deg g ≤ 31) :
    (BitVec.ofNat 32 g).toNat = g ∧ (gdegField g).toNat = deg g := by
  have hlt : g < 2 ^ 32 :=
    Nat.lt_of_lt_of_le (lt_two_pow_deg_succ g) (Nat.pow_le_pow_right (by decide) (Nat.succ_le_succ hdeg))
  exact ⟨Nat.mod_eq_of_lt hlt, Nat.mod_eq_of_lt (show deg g < 2 ^ 5 by omega)⟩

/-- With FIELD_OK = 1 and A.K < A.N INIT builds and stores the generator (R144, R146, R147). -/
theorem builtGenerator_runInit {s : State} (hc : s.config.wf)
    (hrun : s.runInit.fieldOk = true ∧ s.runInit.k < s.runInit.n) : ∃ g, BuiltGenerator s.runInit g := by
  obtain ⟨-, hacc, hgdeg, hgen⟩ := (runInit_generator_cases s).resolve_right fun h => h.1 hrun
  have hf := fieldTables_runInit hc hrun.1
  obtain ⟨-, -, hn⟩ := hf.size
  have hspec : GeneratorOf _ _ _ s.runInit.product := generatorOf_generator hf hrun.2
  obtain ⟨hword, hfield⟩ := stored_mask (Nat.le_trans hspec.deg_le hn)
  refine ⟨_, hacc, ?_, ?_, hn, ?_⟩
  · rw [hgdeg, hword, hfield]
  · rw [hgen, hword, genOkFlag, decide_eq_true_iff]
  · rw [hword]; exact hspec

/-- INIT either builds and stores the generator or leaves ⊥, 0 and 0 (R149). -/
theorem runInit_generator {s : State} (hc : s.config.wf) :
    ((s.runInit.fieldOk = true ∧ s.runInit.k < s.runInit.n) ∧ ∃ g, BuiltGenerator s.runInit g)
    ∨ (¬(s.runInit.fieldOk = true ∧ s.runInit.k < s.runInit.n)
      ∧ s.runInit.gAcc = none ∧ s.runInit.gdeg = 0 ∧ s.runInit.genOk = false) := by
  rcases runInit_generator_cases s with ⟨hrun, -⟩ | hnone
  · exact .inl ⟨hrun, builtGenerator_runInit hc hrun⟩
  · exact .inr hnone

/-- A generator in g_acc after INIT is the one BuildGenerator has built. -/
theorem builtGenerator_of_gAcc {s : State} (hc : s.config.wf) {g : Word} (hg : s.runInit.gAcc = some g) :
    (s.runInit.fieldOk = true ∧ s.runInit.k < s.runInit.n) ∧ BuiltGenerator s.runInit g := by
  rcases runInit_generator hc with ⟨hrun, g', hb⟩ | ⟨-, hnone, -⟩
  · obtain rfl : g' = g := Option.some.inj (hb.gAcc.symm.trans hg)
    exact ⟨hrun, hb⟩
  · rw [hg] at hnone
    cases hnone

/-- The coefficients of x^p and of 1 are 1 when the degree is p. -/
theorem GeneratorOf.endCoefficients {n p poly g : Nat} (h : GeneratorOf n p poly g) (hdeg : deg g = p) :
    g.testBit p = true ∧ g.testBit 0 = true :=
  ⟨hdeg ▸ testBit_deg (ne_zero_of_testBit_zero h.constant), h.constant⟩

/-- INIT establishes GenInv from legal parameters alone. -/
theorem genInv_runInit {s : State} (hc : s.config.wf) : GenInv s.runInit := by
  refine ⟨fun g hg => ?_, fun hnone => ?_⟩
  · obtain ⟨⟨hok, hkn⟩, hb⟩ := builtGenerator_of_gAcc hc hg
    refine ⟨hok, hkn, hb.spec.le_deg, hb.spec.deg_le, hb.gdeg, hb.genOk, fun hgen => ?_⟩
    have hdeg := hb.genOk.1 hgen
    obtain ⟨htop, hbot⟩ := hb.spec.endCoefficients hdeg
    exact ⟨hgen, hg, hkn, hb.n_le, hdeg, hbot, htop⟩
  · rcases runInit_generator hc with ⟨-, g, hb⟩ | ⟨-, -, hgdeg, hgen⟩
    · rw [hb.gAcc] at hnone
      cases hnone
    · exact ⟨hgen, hgdeg⟩

/-- Settles O58, by the effects of a step: INIT and the reset edge establish the invariant, no other effect writes a field
it speaks of. -/
theorem stepKeepsGenInv : Obligations.StepKeepsGenInv := by
  intro s t htab hgen h
  have hc : s.config.wf := htab.1
  obtain ⟨q, b, l, r, j, he, rfl⟩ := step_effect hc.2.2 h
  have hb : GenInv b := by
    cases he with
    | init _ => exact genInv_runInit hc
    | reset _ => exact genInv_toReset _
    | none | encode _ | illegal _ _ _ | status _ _ | cfgN _ _ | cfgK _ _ | cfgPoly _ _ | dataIn _ _ | tabSel _ _ =>
      exact hgen
  exact hb

/-- Settles O26: BuildGenerator stores the generator with its degree, or ⊥, 0 and 0. -/
theorem generatorStatusAfterInit : Obligations.GeneratorStatusAfterInit := by
  intro s hc
  refine ⟨s.runInit, rfl, ?_, exec_encode_of_not_genOk, ?_, ?_⟩
  · rcases runInit_generator hc with ⟨⟨hok, hkn⟩, g, hb⟩ | ⟨hrun, -, -, hgen⟩
    · rw [hb.genOk]
      constructor
      · exact fun hdeg => ⟨hok, hkn, g, hb.gAcc, hdeg⟩
      · rintro ⟨-, -, g', hg', hdeg⟩
        obtain rfl : g = g' := Option.some.inj (hb.gAcc.symm.trans hg')
        exact hdeg
    · exact iff_of_false (by simp [hgen]) fun ⟨hok, hkn, _⟩ => hrun ⟨hok, hkn⟩
  · intro hrun
    obtain ⟨g, hb⟩ := builtGenerator_runInit hc hrun
    have hp : 1 ≤ s.runInit.p := Nat.sub_pos_of_lt hrun.2
    exact ⟨g, hb.gAcc, hb.gdeg, Nat.le_trans hp hb.spec.le_deg, Nat.le_trans hb.spec.deg_le hb.n_le⟩
  · intro hrun
    obtain ⟨-, hacc, hgdeg, hgen⟩ := (runInit_generator hc).resolve_left fun h => hrun h.1
    exact ⟨hacc, hgdeg, hgen, congrArg (readStored · s.runInit) hacc⟩

/-- Settles O27: the degree of the built generator, and GEN_OK as the answer whether it is p. -/
theorem generatorDegreeAndEndCoefficients : Obligations.GeneratorDegreeAndEndCoefficients := by
  intro s hc
  refine ⟨s.runInit, rfl, fun g hg => ?_⟩
  obtain ⟨-, hb⟩ := builtGenerator_of_gAcc hc hg
  have hle : s.runInit.p ≤ deg g.toNat := hb.spec.le_deg
  refine ⟨hle, hb.spec.deg_le, fun hfail => Nat.lt_of_le_of_ne hle fun hdeg => ?_, fun hgen => ?_⟩
  · exact absurd (hb.genOk.2 hdeg.symm) (by simp [hfail])
  · exact hb.spec.endCoefficients (hb.genOk.1 hgen)

/-- Settles O28: the product of a turn divides the last one, x^n + 1, and is a multiple of the first one, A.POLY. -/
theorem generatorDividesXnPlusOne : Obligations.GeneratorDividesXnPlusOne := by
  intro s hc
  refine ⟨s.runInit, rfl, fun g hg => ?_⟩
  obtain ⟨-, hb⟩ := builtGenerator_of_gAcc hc hg
  exact ⟨hb.spec.divides, hb.spec.multiple⟩

/-- Settles O29: the class by its doublings, the minimal polynomial field by field. -/
theorem minimalPolynomialsAreBinary : Obligations.MinimalPolynomialsAreBinary := by
  intro s hc
  refine ⟨s.runInit, rfl, fun hok e he => ?_⟩
  have hf := fieldTables_runInit hc hok
  obtain ⟨hm, hn, -⟩ := hf.size
  obtain ⟨len, -, hlen, hclass, hnodup, -⟩ := conjClass_eq_doublings hm hn he
  refine ⟨⟨self_mem_conjClass hm hn he, fun c hmem => conjClass_closed hm hn he hmem, hnodup, ?_⟩, hf.minPolyOk he⟩
  rw [hclass, List.length_map, List.length_range]
  exact hlen

/-- The word of k = 0 data bits is 0 whatever the generator (R160, R168). -/
theorem codeWord_zero_zero (p g : Nat) : codeWord 0 0 p g = 0 := by simp [codeWord, encodeLoop]

/-- Settles O38: with k = 0 every root is absorbed, and 0 is the one data word below 2^0. -/
theorem zeroDataLengthCode : Obligations.ZeroDataLengthCode := by
  intro s hc hk0
  refine ⟨s.runInit, rfl, fun hok => ?_⟩
  have hf := fieldTables_runInit hc hok
  have hk : s.runInit.k = 0 := by simp [State.k, hk0]
  have hp : s.runInit.p = s.runInit.n := by rw [State.p, hk, Nat.sub_zero]
  have hrun : s.runInit.fieldOk = true ∧ s.runInit.k < s.runInit.n := ⟨hok, hk ▸ hf.n_pos⟩
  obtain ⟨-, hacc, -, hgen⟩ := (runInit_generator_cases s).resolve_right fun h => h.1 hrun
  have hproduct : s.runInit.product = 2 ^ s.runInit.n + 1 := by rw [State.product, hk, generator_zero hf]
  rw [hproduct] at hacc hgen
  have hgenOk : s.runInit.genOk = true := by
    rw [hgen, genOkFlag, deg_two_pow_add_one hf.n_pos, hp, decide_eq_true_iff]
  refine ⟨hgenOk, hp, hacc, fun d => ?_⟩
  have hk' : (s.runInit.setDataIn d).k = 0 := hk
  have hcode : encodeOp (s.runInit.setDataIn d) d = if d = 0 then some 0 else none := by
    by_cases hd : d = 0
    · have hlt : d.toNat < 2 ^ (s.runInit.setDataIn d).k := by simp [hd]
      rw [encodeOp_defined (s := s.runInit.setDataIn d) hgenOk hacc hlt, hk', hd, if_pos rfl]
      exact congrArg (fun c => some (BitVec.ofNat 32 c)) (codeWord_zero_zero _ _)
    · have hpos : d.toNat ≠ 0 := fun h0 => hd (BitVec.eq_of_toNat_eq h0)
      rw [encodeOp_of_oversize (by rw [hk']; exact Nat.pos_of_ne_zero hpos), if_neg hd]
  exact congrArg (fun c => Host.Outcome.next ((s.runInit.setDataIn d).setCodeOut c)) hcode

end Sys2Proof.Machine

/-! ## The code word's properties (43_encoder.md R163, R165, R166) -/

namespace Sys2Proof.Machine

open Sys2Proof

/-- Shifting the parity bits out of a code word leaves the data bits (R163). -/
theorem codeWord_shiftRight (d k p g : Nat) : codeWord d k p g >>> p = d := by
  have hparity : encodeLoop d p g k 0 >>> p = 0 := by
    rw [Nat.shiftRight_eq_div_pow, Nat.div_eq_of_lt (encodeLoop_lt d p g k 0 (Nat.two_pow_pos p))]
  rw [codeWord, Nat.shiftRight_or_distrib, Nat.shiftLeft_shiftRight, hparity, Nat.or_zero]

/-- One data bit of EncodeOp is linear in the data word and the register (R166). -/
theorem encodeStep_xor (a b p g i q r : Nat) :
    encodeStep (a ^^^ b) p g i (q ^^^ r) = encodeStep a p g i q ^^^ encodeStep b p g i r := by
  apply Nat.eq_of_testBit_eq
  intro l
  have hbool : ∀ lt pos q₁ r₁ a₁ b₁ q₂ r₂ gl : Bool,
      (lt && ((pos && (q₁ ^^ r₁)) ^^ (((a₁ ^^ b₁) ^^ (q₂ ^^ r₂)) && gl)))
        = ((lt && ((pos && q₁) ^^ ((a₁ ^^ q₂) && gl))) ^^ (lt && ((pos && r₁) ^^ ((b₁ ^^ r₂) && gl)))) := by decide
  simp only [testBit_encodeStep, Nat.testBit_xor, hbool]

/-- The loop of EncodeOp is linear in the data word and the register (R166). -/
theorem encodeLoop_xor (a b p g : Nat) : ∀ k q r,
    encodeLoop (a ^^^ b) p g k (q ^^^ r) = encodeLoop a p g k q ^^^ encodeLoop b p g k r
  | 0, _, _ => rfl
  | k + 1, q, r => by rw [encodeLoop, encodeStep_xor, encodeLoop_xor a b p g k, ← encodeLoop, ← encodeLoop]

/-- A code word is linear in its data word (R166). -/
theorem codeWord_xor (a b k p g : Nat) : codeWord (a ^^^ b) k p g = codeWord a k p g ^^^ codeWord b k p g := by
  have hloop := encodeLoop_xor a b p g k 0 0
  rw [Nat.xor_self] at hloop
  rw [codeWord_eq_xor, codeWord_eq_xor, codeWord_eq_xor, hloop, Nat.shiftLeft_xor_distrib]
  ac_rfl

/-- The code word of 0 is 0 (R165). -/
theorem codeWord_zero_left (k p g : Nat) : codeWord 0 k p g = 0 := by
  simpa using codeWord_xor 0 0 k p g

/-- Dividing x^p by a mask of degree p takes one step, which leaves the mask without its leading term. -/
theorem pmod_one_shiftLeft_deg (g : Nat) : pmod (1 <<< deg g) g = 1 <<< deg g ^^^ g := by
  have hdeg : deg (1 <<< deg g) = deg g := by rw [Nat.one_shiftLeft, deg, Nat.log2_two_pow]
  have hone : deg g + 1 - deg g = 1 := by omega
  rw [pmod, hdeg, hone]
  simp [pmodFrom, pmodStep]

/-- The code word of 1 is the generator (R166). -/
theorem codeWord_one {k p g : Nat} (hk : 1 ≤ k) (hp : 1 ≤ p) (hdeg : deg g = p) (htop : g.testBit p = true) :
    codeWord 1 k p g = g := by
  have hdata : 1 < 2 ^ k := Nat.one_lt_two_pow (Nat.one_le_iff_ne_zero.1 hk)
  rw [codeWord_eq_xor, encodeLoop_eq_pmod hp hdeg htop hdata, ← hdeg, pmod_one_shiftLeft_deg, ← Nat.xor_assoc,
    Nat.xor_self, Nat.zero_xor]

/-! ## XOR-additive functions of a word -/

/-- The bits of d below bit j. -/
def lowBits (d : Word) (j : Nat) : Word := BitVec.ofNat 32 (d.toNat % 2 ^ j)

/-- Bit i of the low bits is the word's bit i below j, and 0 from j on. -/
theorem getElem_lowBits (d : Word) (j : Nat) {i : Nat} (hi : i < 32) :
    (lowBits d j)[i] = (decide (i < j) && d[i]) := by
  simp only [BitVec.getElem_eq_testBit_toNat, lowBits, BitVec.toNat_ofNat, Nat.testBit_mod_two_pow, hi,
    decide_true, Bool.true_and]

/-- A word without a bit at position k or above is its own low bits. -/
theorem lowBits_of_lt {d : Word} {k : Nat} (hd : d.toNat < 2 ^ k) : lowBits d k = d := by
  rw [lowBits, Nat.mod_eq_of_lt hd, BitVec.ofNat_toNat, BitVec.setWidth_eq]

/-- One bit more among the low bits. -/
theorem lowBits_succ (d : Word) (j : Nat) :
    lowBits d (j + 1) = if d.getLsbD j then lowBits d j ^^^ 1#32 <<< j else lowBits d j := by
  ext i hi
  rcases Nat.lt_trichotomy i j with hlt | rfl | hgt
  · have hj : i < j + 1 := by omega
    split <;> simp [getElem_lowBits, hlt, hj]
  · cases h : d[i] <;> simp [getElem_lowBits, h, hi]
  · have hj : ¬i < j + 1 := by omega
    have hsub : i - j ≠ 0 := by omega
    split <;> simp [getElem_lowBits, hj, hgt.not_gt, hsub]

/-- An XOR-additive function of a word is the XOR of its values at the word's bits. -/
theorem eq_foldl_of_xor_additive {f : Word → Word} (hf : ∀ a b, f (a ^^^ b) = f a ^^^ f b) {d : Word} {k : Nat}
    (hd : d.toNat < 2 ^ k) :
    f d = (List.range k).foldl (fun c i => if d.getLsbD i then c ^^^ f (1#32 <<< i) else c) 0 := by
  have hlow (j : Nat) :
      f (lowBits d j) = (List.range j).foldl (fun c i => if d.getLsbD i then c ^^^ f (1#32 <<< i) else c) 0 := by
    induction j with
    | zero =>
      have hnil : lowBits d 0 = 0 := by simp [lowBits, Nat.mod_one]
      have hzero := hf 0 0
      rw [BitVec.xor_self, BitVec.xor_self] at hzero
      rw [hnil]
      exact hzero
    | succ j ih =>
      rw [List.range_succ, List.foldl_append, ← ih, lowBits_succ, List.foldl_cons, List.foldl_nil, apply_ite f, hf]
  rw [← hlow k, lowBits_of_lt hd]

/-! ## ENCODE on defined and undefined inputs (43_encoder.md R160 to R167) -/

/-- The code word of `d` for the active configuration and the generator `g`, as CODE_OUT stores it (R160). -/
def State.encoded (s : State) (g d : Word) : Word := BitVec.ofNat 32 (codeWord d.toNat s.k s.p g.toNat)

/-- A stored code word is linear in its data word (R166). -/
theorem State.encoded_xor (s : State) (g a b : Word) : s.encoded g (a ^^^ b) = s.encoded g a ^^^ s.encoded g b := by
  rw [encoded, BitVec.toNat_xor, codeWord_xor, BitVec.ofNat_xor]
  rfl

/-- The stored code word of 0 is 0 (R165). -/
theorem State.encoded_zero (s : State) (g : Word) : s.encoded g 0 = 0 :=
  congrArg (BitVec.ofNat 32) (codeWord_zero_left s.k s.p g.toNat)

/-- ENCODE completes in every state and changes CODE_OUT only (R104, R162). -/
theorem exec_encode (s : State) : exec .encode s = .next { s with codeOut := encodeOp s s.dataIn } := rfl

section ready

variable {s : State} {g : Word} (hg : GenReady s g)

include hg

/-- With a ready generator ENCODE of a data word of k bits leaves its code word (R160). -/
theorem exec_encode_of_genReady (hd : s.dataIn.toNat < 2 ^ s.k) :
    exec .encode s = .next { s with codeOut := some (s.encoded g s.dataIn) } := by
  obtain ⟨hok, hacc, -⟩ := hg
  rw [exec_encode, encodeOp_defined hok hacc hd, State.encoded]

/-- A code word has n bits, at most 31, so CODE_OUT holds it whole (R163). -/
theorem toNat_encoded {d : Word} (hd : d.toNat < 2 ^ s.k) :
    (s.encoded g d).toNat = codeWord d.toNat s.k s.p g.toNat ∧ codeWord d.toNat s.k s.p g.toNat < 2 ^ s.n := by
  obtain ⟨-, -, hkn, hn, -⟩ := hg
  have hsum : s.k + s.p = s.n := Nat.add_sub_cancel' (Nat.le_of_lt hkn)
  have hlt : codeWord d.toNat s.k s.p g.toNat < 2 ^ s.n := hsum ▸ codeWord_lt s.p g.toNat hd
  exact ⟨Nat.mod_eq_of_lt (Nat.lt_trans hlt (Nat.pow_lt_pow_right (by decide) (Nat.lt_succ_of_le hn))), hlt⟩

/-- The code word of 1 is the generator (R166). -/
theorem encoded_one (hk : 1 ≤ s.k) : s.encoded g 1 = g := by
  obtain ⟨-, -, hkn, -, hdeg, -, htop⟩ := hg
  have hone : codeWord 1 s.k s.p g.toNat = g.toNat := codeWord_one hk (Nat.sub_pos_of_lt hkn) hdeg htop
  exact (congrArg (BitVec.ofNat 32) hone).trans (by rw [BitVec.ofNat_toNat, BitVec.setWidth_eq])

end ready

/-- Settles O32: the parity bits are shifted out, and n = k + p. -/
theorem encodeIsSystematic : Obligations.EncodeIsSystematic := by
  intro s g hg hd
  obtain ⟨hval, hlt⟩ := toNat_encoded hg hd
  exact ⟨s.encoded g s.dataIn, exec_encode_of_genReady hg hd, hval ▸ codeWord_shiftRight .., hval ▸ hlt⟩

/-- Settles O33: a code word is a multiple of the generator. -/
theorem encodeIsDivisibleByGenerator : Obligations.EncodeIsDivisibleByGenerator := by
  intro s g hg hd
  have ⟨_, _, hkn, _, hdeg, _, htop⟩ := hg
  obtain ⟨hval, -⟩ := toNat_encoded hg hd
  exact ⟨s.encoded g s.dataIn, exec_encode_of_genReady hg hd,
    hval ▸ pmod_codeWord (Nat.sub_pos_of_lt hkn) hdeg htop hd⟩

/-- Settles O34: the code word of 0 is 0, and ENCODE without a generator of the right degree leaves ⊥. -/
theorem encodeZeroIsZero : Obligations.EncodeZeroIsZero := by
  refine fun s hzero => ⟨fun g hg => ?_, exec_encode_of_not_genOk⟩
  have hd : s.dataIn.toNat < 2 ^ s.k := by rw [hzero]; exact Nat.two_pow_pos s.k
  rw [exec_encode_of_genReady hg hd, hzero, State.encoded_zero]

/-- Settles O35: the code words are XOR-additive in the data word, and that of 1 is the generator. -/
theorem encodeIsLinear : Obligations.EncodeIsLinear := by
  intro s g hg
  refine ⟨s.encoded g, fun d hd => ?_, fun a b _ _ => s.encoded_xor g a b, fun d hd => ?_, encoded_one hg⟩
  · exact exec_encode_of_genReady (s := { s with dataIn := d }) hg hd
  · exact eq_foldl_of_xor_additive (s.encoded_xor g) hd

/-- Settles O36: EncodeOp reads nothing else. -/
theorem encodeDependsOnlyOnItsOperands : Obligations.EncodeDependsOnlyOnItsOperands := by
  intro s t hdata hn hk hacc hok
  have hcode : encodeOp s s.dataIn = encodeOp t t.dataIn := by
    rw [encodeOp, encodeOp, State.p, State.p, State.n, State.n, State.k, State.k, hdata, hn, hk, hacc, hok]
  exact ⟨encodeOp s s.dataIn, exec_encode s, hcode ▸ exec_encode t⟩

/-- Settles O31: each of the two conditions of R162 makes EncodeOp's answer ⊥, whose read draws a free value. -/
theorem encodeUndefinedInputs : Obligations.EncodeUndefinedInputs := by
  refine fun s => ⟨⟨_, exec_encode s⟩, fun h => ⟨?_, rfl⟩⟩
  rcases h with hok | hsize
  · exact exec_encode_of_not_genOk hok
  · rw [exec_encode, encodeOp_of_oversize hsize]

end Sys2Proof.Machine

/-! ## Fields of a word (10_state.md R22, R30, R32) -/

namespace Sys2Proof.Machine

open Sys2Proof

/-- The low n bits of a word, read as a word, are the word under a mask of n ones (R184, R194). -/
theorem setWidth_extractLsb'_zero (w : Word) {n : Nat} (hn : n ≤ 32) :
    (w.extractLsb' 0 n).setWidth 32 = w &&& BitVec.ofNat 32 (2 ^ n - 1) := by
  have hmask : 2 ^ n - 1 < 2 ^ 32 :=
    Nat.lt_of_lt_of_le (Nat.sub_one_lt (Nat.two_pow_pos n).ne') (Nat.pow_le_pow_right (by decide) hn)
  apply BitVec.eq_of_toNat_eq
  rw [BitVec.toNat_setWidth_of_le hn, BitVec.extractLsb'_toNat, Nat.shiftRight_zero, BitVec.toNat_and,
    BitVec.toNat_ofNat, Nat.mod_eq_of_lt hmask, Nat.and_two_pow_sub_one_eq_mod]

/-- The field `x` of a word, its lowest bit at position `k`. -/
def fieldAt {n : Nat} (k : Nat) (x : BitVec n) : Word := x.setWidth 32 <<< k

/-- A shifted number of at most n bits is a field of n bits. -/
theorem ofNat_shiftLeft_eq_fieldAt {n v : Nat} (hn : n ≤ 32) (hv : v < 2 ^ n) (k : Nat) :
    BitVec.ofNat 32 v <<< k = fieldAt k (BitVec.ofNat n v) := by
  rw [fieldAt, BitVec.setWidth_ofNat_of_le_of_lt hn hv]

section fieldAt

variable {n k start len : Nat} (x : BitVec n)

/-- A field reads back where it stands. -/
theorem extractLsb'_fieldAt_self (h : k + n ≤ 32) : (fieldAt k x).extractLsb' k n = x := by
  ext i hi
  have hik : k + i < 32 := by omega
  simp [fieldAt, hik, hi]

/-- The bits below a field are 0. -/
theorem extractLsb'_fieldAt_below (h : start + len ≤ k) : (fieldAt k x).extractLsb' start len = 0 := by
  ext i hi
  have hik : start + i < k := by omega
  simp [fieldAt, hik]

/-- The bits above a field are 0. -/
theorem extractLsb'_fieldAt_above (h : k + n ≤ start) : (fieldAt k x).extractLsb' start len = 0 := by
  ext i hi
  have hin : n ≤ start + i - k := by omega
  simp [fieldAt, BitVec.getLsbD_of_ge x _ hin]

end fieldAt

/-- A.M fits its 5-bit field: A.POLY has 32 bits (R22, R29). -/
theorem State.aM_lt_two_pow_five (s : State) : s.aM < 2 ^ 5 := by
  by_cases h : s.aPoly.toNat = 0
  · rw [State.aM, h]; decide
  · exact (Nat.log2_lt h).2 s.aPoly.isLt

/-- STATUS is laid out in six fields (R22). -/
theorem statusWord_eq_fields (s : State) :
    statusWord s = fieldAt 16 s.gdeg ||| fieldAt 8 (BitVec.ofNat 5 s.aM) ||| fieldAt 3 (BitVec.ofBool s.cmdErr)
      ||| fieldAt 2 (BitVec.ofBool s.initDone) ||| fieldAt 1 (BitVec.ofBool s.genOk)
      ||| fieldAt 0 (BitVec.ofBool s.fieldOk) := by
  rw [← ofNat_shiftLeft_eq_fieldAt (by decide) s.aM_lt_two_pow_five, fieldAt, fieldAt, fieldAt, fieldAt, fieldAt,
    BitVec.shiftLeft_zero]
  rfl

/-- TAB_SEL reads as its nine bits (R30, R194). -/
theorem tabSelWord_eq_setWidth (s : State) :
    (flagWord s.tsel <<< 8) ||| s.idx.setWidth 32 = s.tabSel.setWidth 32 := by
  ext i hi
  rcases Nat.lt_trichotomy i 8 with hlt | rfl | hgt
  · simp [State.idx, hlt]
  · simp [flagWord, State.tsel, State.idx]
  · have hsub : i - 8 ≠ 0 := by omega
    have hzero : s.tabSel.getLsbD i = false := BitVec.getLsbD_of_ge _ _ hgt
    simp [flagWord, State.idx, hgt.not_gt, hsub, hzero]

/-- A legal M_MAX and its N_MAX fit their fields of PARAM (R8, R9, R32). -/
theorem params_lt_of_wf {c : Config} (hc : c.wf) : c.mMax < 2 ^ 4 ∧ 2 ^ c.mMax - 1 < 2 ^ 8 := by
  obtain ⟨-, hle, -⟩ := hc
  have hpow : 2 ^ c.mMax ≤ 2 ^ 5 := Nat.pow_le_pow_right (by decide) hle
  omega

/-- With legal parameters PARAM is laid out in two fields (R32). -/
theorem paramWord_eq_fields {c : Config} (hc : c.wf) :
    paramWord c = fieldAt 8 (BitVec.ofNat 8 (2 ^ c.mMax - 1)) ||| fieldAt 0 (BitVec.ofNat 4 c.mMax) := by
  obtain ⟨hm, hn⟩ := params_lt_of_wf hc
  rw [← ofNat_shiftLeft_eq_fieldAt (by decide) hn, ← ofNat_shiftLeft_eq_fieldAt (by decide) hm, BitVec.shiftLeft_zero]
  rfl

/-! ## What a read of a register answers (44_register_access.md R180 to R197, R202) -/

/-- A read of an element that holds a word answers with it (R20). -/
theorem readStored_of_some {c : Stored} {v : Word} (h : c = some v) (s : State) :
    readStored c s = .next { s with response := .data v } := by
  rw [h]; rfl

/-- A read of an element that holds ⊥ draws the next free value (R20). -/
theorem readStored_of_none {c : Stored} (h : c = none) (s : State) :
    readStored c s =
      .next { s with response := .data (Config.freeValue s.freeCount), freeCount := s.freeCount + 1 } := by
  rw [h]; rfl

/-- The table that TSEL selects (R30). -/
def State.selectedTable (s : State) : List Stored := if s.tabSel.getLsbD 8 = false then s.alphaTo else s.indexOf

/-- Either table has N_MAX + 1 entries (R33, R34). -/
theorem selectedTable_length {s : State} (h : TableInv s) : s.selectedTable.length = s.nMax + 1 := by
  obtain ⟨-, halpha, hindex, -⟩ := h
  unfold State.selectedTable
  split
  · exact halpha
  · exact hindex

/-- An index above N_MAX or A.N selects ⊥ (R196). -/
theorem selectedEntry_of_outside {s : State} (h : s.nMax < s.idx.toNat ∨ s.n < s.idx.toNat) :
    selectedEntry s = none := if_pos h

/-- Any other index selects its entry of the selected table (R196). -/
theorem selectedEntry_of_inside {s : State} {e : Stored} (h : ¬(s.nMax < s.idx.toNat ∨ s.n < s.idx.toNat))
    (he : s.selectedTable[s.idx.toNat]? = some e) : selectedEntry s = e := by
  have hget : s.selectedTable.getD s.idx.toNat none = e := by rw [List.getD_eq_getElem?_getD, he, Option.getD_some]
  rw [selectedEntry, if_neg h, ← hget, State.selectedTable, State.tsel]
  cases s.tabSel.getLsbD 8 <;> rfl

/-- Settles O43, by the entry that TAB_SEL selects: ⊥ outside the index range, an entry of the table inside it. -/
theorem tabDataReadsTheSelectedEntry : Obligations.TabDataReadsTheSelectedEntry := by
  intro s hinv idx tab
  refine ⟨fun hout => ?_, fun hin => ⟨?_, fun hnone => ?_, fun v hv => ?_⟩⟩
  · exact readStored_of_none (selectedEntry_of_outside hout) s
  · have hlt : idx < s.selectedTable.length := by
      rw [selectedTable_length hinv]
      exact Nat.lt_succ_of_le (Nat.not_lt.1 fun h => hin (.inl h))
    exact ⟨_, List.getElem?_eq_getElem hlt⟩
  · exact readStored_of_none (selectedEntry_of_inside hin hnone) s
  · exact readStored_of_some (selectedEntry_of_inside hin hv) s

/-- Settles O39, read by read: each is `readWord` of 0 or of the register. -/
theorem plainReadsReturnTheRegister : Obligations.PlainReadsReturnTheRegister :=
  fun _ _ => ⟨rfl, rfl, rfl, rfl, rfl, rfl⟩

/-- Settles O40, from the layout of STATUS: a field reads back, and no field covers a reserved bit. -/
theorem statusReadFields : Obligations.StatusReadFields := by
  intro s
  have hM : (if s.aPoly = 0 then 0 else deg s.aPoly.toNat) = s.aM := by
    split
    next h => rw [State.aM, h]; rfl
    next => rfl
  have hfit : (BitVec.ofNat 5 s.aM).toNat = s.aM := Nat.mod_eq_of_lt s.aM_lt_two_pow_five
  have hflag (b : Bool) : (BitVec.ofBool b == 1#1) = b := by cases b <;> rfl
  refine ⟨statusWord s, rfl, ?_⟩
  rw [statusWord_eq_fields, hM]
  simp only [BitVec.getLsbD_eq_extractLsb', BitVec.extractLsb'_or]
  simp [extractLsb'_fieldAt_self, extractLsb'_fieldAt_below, extractLsb'_fieldAt_above, hfit, hflag]

/-- Settles O41, from the nine bits of TAB_SEL. -/
theorem tabSelReadFields : Obligations.TabSelReadFields := by
  refine fun s => ⟨s.tabSel.setWidth 32, ?_, ?_, ?_, ?_⟩
  · exact congrArg (fun v => readWord v s) (tabSelWord_eq_setWidth s)
  · exact BitVec.extractLsb'_setWidth_of_le (by decide)
  · simp
  · simpa [fieldAt] using extractLsb'_fieldAt_above (k := 0) (start := 9) (len := 23) s.tabSel (by decide)

/-- Settles O42, by what each of the two elements holds. -/
theorem storedReadsReturnWordOrFreeValue : Obligations.StoredReadsReturnWordOrFreeValue :=
  fun s => ⟨fun _ h => readStored_of_some h s, fun h => readStored_of_none h s, fun _ h => readStored_of_some h s,
    fun h => readStored_of_none h s⟩

/-- Settles O44, from the layout of PARAM. -/
theorem paramReadFields : Obligations.ParamReadFields := by
  intro s hc
  obtain ⟨hm, hn⟩ := params_lt_of_wf hc
  have hmField : (BitVec.ofNat 4 s.config.mMax).toNat = s.config.mMax := Nat.mod_eq_of_lt hm
  have hnField : (BitVec.ofNat 8 (2 ^ s.config.mMax - 1)).toNat = 2 ^ s.config.mMax - 1 := Nat.mod_eq_of_lt hn
  refine ⟨paramWord s.config, rfl, ?_⟩
  rw [paramWord_eq_fields hc]
  refine ⟨?_, ?_, ?_, ?_, fun h => by rw [h]; rfl⟩ <;>
    simp [BitVec.extractLsb'_or, extractLsb'_fieldAt_self, extractLsb'_fieldAt_below, extractLsb'_fieldAt_above, hmField,
      hnField]

/-! ## What a write of a register stores (44_register_access.md R183 to R203) -/

/-- Settles O45, write by write: each is one named update. -/
theorem plainWritesStoreTheWord : Obligations.PlainWritesStoreTheWord :=
  fun _ _ => ⟨rfl, rfl, rfl, rfl, rfl⟩

/-- Settles O46, by bit 3 of the word. -/
theorem statusWriteClearsOnlyCmdErr : Obligations.StatusWriteClearsOnlyCmdErr := by
  refine fun s w => ⟨fun h => ?_, fun h => ?_⟩
  · exact congrArg (fun b => completeWrite (s.setCmdErr b)) (cmdErrAfterWrite_of_bit h s.cmdErr)
  · exact congrArg (fun b => completeWrite (s.setCmdErr b)) (cmdErrAfterWrite_of_clear h s.cmdErr)

/-- Settles O47, write by write: each completes with the state it found. -/
theorem ignoredWritesChangeNothing : Obligations.IgnoredWritesChangeNothing :=
  fun _ _ _ => ⟨rfl, rfl, rfl, rfl, rfl⟩

/-- Settles O50: the register holds the low bits of the word, which the read extends by zeros. -/
theorem writeThenReadBack : Obligations.WriteThenReadBack := by
  intro s w
  have hlow8 : (low8 w).setWidth 32 = w &&& 0x000000FF#32 := setWidth_extractLsb'_zero w (by decide)
  have hlow9 : (low9 w).setWidth 32 = w &&& 0x000001FF#32 := setWidth_extractLsb'_zero w (by decide)
  refine ⟨⟨_, _, rfl, rfl, ?_⟩, ⟨_, _, rfl, rfl, ?_⟩, ⟨_, _, rfl, rfl, rfl⟩, ⟨_, _, rfl, rfl, rfl⟩, _, _, rfl, rfl, ?_⟩
  · exact congrArg Response.data hlow8
  · exact congrArg Response.data hlow8
  · exact congrArg Response.data ((tabSelWord_eq_setWidth _).trans hlow9)

end Sys2Proof.Machine

/-! ## The conditions of R212 and what they stop or record (60_exceptions.md) -/

namespace Sys2Proof.Machine

open Sys2Proof

@[simp] theorem mem_conditionIf {b : Bool} {c d : Condition} : d ∈ conditionIf b c ↔ b = true ∧ d = c := by
  cases b <;> simp [conditionIf]

/-- A_FIELD_INVALID, A_K_GE_N and A_GEN_DEGREE, each with its test on the state INIT leaves (R212). -/
@[simp] theorem mem_initConditions {c : Condition} {t : State} :
    c ∈ initConditions t ↔
      (t.fieldOk = false ∧ c = .aFieldInvalid) ∨ (t.n ≤ t.k ∧ c = .aKGeN)
        ∨ ((∃ g, t.gAcc = some g ∧ deg g.toNat ≠ t.p) ∧ c = .aGenDegree) := by
  cases hg : t.gAcc <;> simp [initConditions, hg]

/-- A_DATA_OVERSIZE and A_NOT_INIT, each with its test on the state ENCODE finds (R212). -/
@[simp] theorem mem_encodeConditions {c : Condition} {s : State} :
    c ∈ encodeConditions s ↔
      (2 ^ s.k ≤ s.dataIn.toNat ∧ c = .aDataOversize) ∨ (s.initDone = false ∧ c = .aNotInit) := by
  simp [encodeConditions]

/-- The conditions of a command word, arm by arm of the dispatch of R101; E_CMD_ILLEGAL is raised where the dispatch drops
the command (R105). -/
theorem commandConditions_cases (w : Word) (s : State) :
    commandConditions w s = [] ∨ commandConditions w s = initConditions s.runInit
    ∨ commandConditions w s = encodeConditions s
    ∨ (commandConditions w s = [.eCmdIllegal] ∧ s.runCommand w = s.illegalCommand) := by
  unfold commandConditions State.runCommand
  split_ifs
  · exact .inr (.inr (.inr ⟨rfl, rfl⟩))
  · exact .inl rfl
  · exact .inr (.inl rfl)
  · exact .inr (.inr (.inl rfl))
  · exact .inr (.inr (.inr ⟨rfl, rfl⟩))

/-- Only MISALIGNED raises a bus error (R204): a command raises none (R106), any other access has no condition. -/
theorem busCondition_iff {i : Instr} (s : State) (hwf : i.wellFormed = true) :
    (.eBusSize ∈ conditionsOf i s ∨ .eBusAlign ∈ conditionsOf i s) ↔ ∃ we o z, i = .misaligned we o z := by
  cases i with
  | misaligned we o z =>
    have hbad : z ≠ .word ∨ o.toNat % 4 ≠ 0 := by simpa [Instr.wellFormed, badAccess] using hwf
    simpa [conditionsOf] using hbad
  | wrCmd w =>
    rcases commandConditions_cases w s with e | e | e | ⟨e, -⟩ <;> simp [conditionsOf, e]
  | nop | init | encode | illegalOp | illegalRsvd | rdCmd | rdStatus | wrStatus | rdCfgN | wrCfgN | rdCfgK | wrCfgK
  | rdCfgPoly | wrCfgPoly | rdDataIn | wrDataIn | rdCodeOut | wrCodeOut | rdGen | wrGen | rdTabSel | wrTabSel
  | rdTabData | wrTabData | rdParam | wrParam | rdRsvd | wrRsvd => simp [conditionsOf]

/-- Only MISALIGNED faults: reads of a storage element, which can hold ⊥, complete, and so does every other arm (R210). -/
theorem exec_fault_iff {i : Instr} {s : State} : (∃ f, exec i s = .fault f) ↔ ∃ we o z, i = .misaligned we o z := by
  have stored (c : Stored) (f : Fault) : readStored c s ≠ .fault f := by
    obtain ⟨v, j, hv⟩ := readStored_completes c s
    simp [hv]
  cases i with
  | misaligned we o z => exact iff_of_true (raiseBusError_fault o z) ⟨we, o, z, rfl⟩
  | rdCodeOut => exact iff_of_false (fun ⟨f, h⟩ => stored s.codeOut f h) nofun
  | rdGen => exact iff_of_false (fun ⟨f, h⟩ => stored s.gAcc f h) nofun
  | rdTabData => exact iff_of_false (fun ⟨f, h⟩ => stored (selectedEntry s) f h) nofun
  | nop | init | encode | illegalOp | illegalRsvd | rdCmd | wrCmd | rdStatus | wrStatus | rdCfgN | wrCfgN | rdCfgK
  | wrCfgK | rdCfgPoly | wrCfgPoly | rdDataIn | wrDataIn | wrCodeOut | wrGen | rdTabSel | wrTabSel | wrTabData
  | rdParam | wrParam | rdRsvd | wrRsvd => exact iff_of_false nofun nofun

/-- Whatever raises E_CMD_ILLEGAL, a command word or the write of one, sets CMD_ERR and changes no other element of the
block (R105). -/
theorem exec_of_eCmdIllegal {i : Instr} {s : State} (h : .eCmdIllegal ∈ conditionsOf i s) :
    ∃ r, exec i s = .next (s.illegalCommand.respond r) := by
  cases i with
  | illegalOp | illegalRsvd => exact ⟨s.response, rfl⟩
  | wrCmd w =>
    rcases commandConditions_cases w s with e | e | e | ⟨-, hrun⟩
    · simp [conditionsOf, e] at h
    · simp [conditionsOf, e] at h
    · simp [conditionsOf, e] at h
    · exact ⟨.written, congrArg completeWrite hrun⟩
  | nop | init | encode | rdCmd | rdStatus | wrStatus | rdCfgN | wrCfgN | rdCfgK | wrCfgK | rdCfgPoly | wrCfgPoly
  | rdDataIn | wrDataIn | rdCodeOut | wrCodeOut | rdGen | wrGen | rdTabSel | wrTabSel | rdTabData | wrTabData | rdParam
  | wrParam | rdRsvd | wrRsvd | misaligned => simp [conditionsOf] at h

/-- Settles O17: faults and bus errors are both MISALIGNED's alone. -/
theorem onlyBusErrorsFault : Obligations.OnlyBusErrorsFault :=
  fun _ s hwf => ⟨exec_fault_iff.trans (busCondition_iff s hwf).symm, exec_of_eCmdIllegal⟩

/-- Each condition of INIT contradicts a part of R146, so GEN_OK = 0. -/
theorem runInit_genOk_of_condition {s : State} (hc : s.config.wf)
    (h : .aFieldInvalid ∈ conditionsOf .init s ∨ .aKGeN ∈ conditionsOf .init s ∨ .aGenDegree ∈ conditionsOf .init s) :
    s.runInit.genOk = false := by
  have hcond : s.runInit.fieldOk = false ∨ s.runInit.n ≤ s.runInit.k
      ∨ ∃ g, s.runInit.gAcc = some g ∧ deg g.toNat ≠ s.runInit.p := by
    simpa [conditionsOf] using h
  rcases runInit_generator hc with ⟨⟨hok, hkn⟩, g, hb⟩ | ⟨-, -, -, hgen⟩
  · rcases hcond with hinvalid | hge | ⟨g', hg', hdeg⟩
    · simp [hok] at hinvalid
    · exact absurd hkn (Nat.not_lt.2 hge)
    · obtain rfl : g = g' := Option.some.inj (hb.gAcc.symm.trans hg')
      exact Bool.eq_false_iff.2 (mt hb.genOk.1 hdeg)
  · exact hgen

/-- Settles O18: both of R162's tests, GEN_OK = 0 after a condition of INIT or before the first INIT, and an oversized data
word, leave ⊥. -/
theorem anomaliesMakeEncodeUnconstrained : Obligations.AnomaliesMakeEncodeUnconstrained := by
  refine ⟨fun s hc => ⟨s.runInit, rfl, fun h => exec_encode_of_not_genOk (runInit_genOk_of_condition hc h)⟩,
    fun s hinv h => ?_⟩
  obtain ⟨-, -, -, -, -, -, -, hfresh⟩ := hinv
  have hcond : 2 ^ s.k ≤ s.dataIn.toNat ∨ s.initDone = false := by simpa [conditionsOf] using h
  have hundefined : s.genOk = false ∨ 2 ^ s.k ≤ s.dataIn.toNat := by
    rcases hcond with hsize | hinit
    · exact .inr hsize
    · obtain ⟨-, hgen, -⟩ := hfresh hinit
      exact .inl hgen
  exact ((encodeUndefinedInputs s).2 hundefined).1

/-! ## The reset input and the idle step (10_state.md R38, R220, R230) -/

/-- A step takes the first event and performs it (R69). -/
theorem step_event {s : State} {e : HostEvent} {rest : List HostEvent} (hp : s.pending = e :: rest) :
    step s = performEvent e (s.setPending rest) := by
  simp [step, hp]

/-- Settles O10, by the head of the queue and the level of the reset input. -/
theorem resetInputAndIdleSteps : Obligations.ResetInputAndIdleSteps := by
  refine fun s rest => ⟨fun hp => ?_, fun hp => ?_, fun hp hr => ?_, fun hp hr => ?_, fun a hp hr => ?_⟩
  · simp [step, hp]
  · exact step_event hp
  · exact (step_event hp).trans (congrArg Host.Outcome.next (if_pos hr))
  · exact (step_event hp).trans (congrArg Host.Outcome.next (if_neg (Bool.eq_false_iff.1 hr)))
  · exact (step_event hp).trans (if_pos hr)

end Sys2Proof.Machine
